-- ==== Sys2Proof/Word.lean ====
section
/-! DEFINITION. The word types of the block (00_scope.md section 7, 10_state.md rule R26) and its two output lines (rule R19). -/

namespace Sys2Proof

/-- A byte of the table, of a Bus Channel register or of system memory (8 bits). -/
abbrev Byte := BitVec 8

/-- A Transfer Channel register, and an address: `AW` = 32 bits (00_scope.md rule R7, decision D4). -/
abbrev Word := BitVec 32

/-- A byte address of system memory or of the register space. -/
abbrev Addr := BitVec 32

/-- A handle is `some ch` or the not-found indicator `none` (00_scope.md section 7). -/
abbrev Handle := Option Nat

/-- The two discrete output lines of GPIO Line Control (10_state.md rule R19). -/
inductive Line where
  | rst
  | dc
  deriving DecidableEq, Repr

end Sys2Proof
end

