-- ==== Sys2Proof/Config.lean ====
section
/-! DEFINITION. The parameters an implementation fixes before INIT (00_scope.md rule R7) and the free values the spec leaves open (`draw_8`, `draw_32`, the environment's memory). -/

namespace Sys2Proof

/-- Source address policy `SRC_INC` (43_orchestrator.md rule R166). -/
inductive SrcInc where
  | increment
  | fixed
  deriving DecidableEq, Repr

/-- Every parameter of 00_scope.md rule R7 as plain data. `N_XFER` = 4 and `AW` = 32 are constants of the model. -/
structure Config where
  /-- `N_BUS`, the number of supported Bus Channels. -/
  nBus : Nat
  /-- `BUS_CH`, the index of the Bus Channel the orchestrator selects. -/
  busCh : Int
  /-- `XFER_CH`, the index of the Transfer Channel the orchestrator selects. -/
  xferCh : Int
  /-- `TPW`, the width of the table pointer. -/
  tpw : Nat
  /-- The command table `T`; its length is `L`. -/
  table : List Byte
  /-- `PCLK`, what the clock query answers, in Hz. -/
  pclk : Nat
  /-- `TARGET_HZ`, the requested serial clock rate. -/
  targetHz : Nat
  /-- `CPOL`, the clock polarity. -/
  cpol : BitVec 1
  /-- `CPHA`, the clock phase. -/
  cpha : BitVec 1
  /-- `DIRMODE`, carried and not interpreted (decision D29). -/
  dirmode : BitVec 2
  /-- `T_LOW_MS`, the reset pulse's low time. -/
  tLowMs : Nat
  /-- `T_HIGH_MS`, the reset pulse's high time. -/
  tHighMs : Nat
  /-- `COLS`. -/
  cols : Nat
  /-- `ROWS`. -/
  rows : Nat
  /-- `BPP`, bytes per pixel. -/
  bpp : Nat
  /-- `SRC_INC`. -/
  srcInc : SrcInc
  /-- `RELOAD`. -/
  reload : Bool
  /-- `REQSRC_BUS`, the selector value that names the selected Bus Channel. -/
  reqsrcBus : BitVec 3
  /-- `BUS_BASE(BUS_CH)`, the address of the selected Bus Channel's block (no rule uses it). -/
  busBase : Addr
  /-- `XFER_BASE(XFER_CH)`, the address of the selected Transfer Channel's block (no rule uses it). -/
  xferBase : Addr
  /-- `BUS_DAT_ADDR(BUS_CH)`, the address of the selected Bus Channel's data register. -/
  busDatAddr : Addr
  /-- `BUS_RESPONSIVE`: every shift ends while its caller waits (rule R109). When false a shift ends only where the agenda says so. -/
  busResponsive : Bool
  /-- Every delay ends while the thread waits for it (43_orchestrator.md rule R158). When false a delay ends only where ENV answers
  it (U20, log entry 21). -/
  delaysEnd : Bool
  /-- The values of `DIRMODE` with which the silicon produces the bus's request (41_bus_channel.md rule R110, which leaves them
  open). No step reads them; a claim that the stream makes progress names them as a premise (log entry 24). -/
  requestModes : List (BitVec 2)
  /-- A table read at or past `L` stops the run, the treatment rule R41 of 20_memory.md gives a model. When false it goes on with
  a free byte, as the hardware of the same rule does (log entry 6). -/
  overrunStops : Bool
  deriving DecidableEq, Repr

/-- `N_XFER`: there are four Transfer Channels (00_scope.md rule R7). -/
abbrev nXfer : Nat := 4

/-- `L`, the length of the command table. -/
abbrev Config.tableLen (c : Config) : Nat := c.table.length

/-- `COUNT = COLS * ROWS * BPP` (43_orchestrator.md rule R167). -/
abbrev Config.count (c : Config) : Nat := c.cols * c.rows * c.bpp

/-- The example configuration of 95_test_vectors.md, with the empty table and with addresses 0 (log entry 3). -/
def Config.sample : Config where
  nBus := 2
  busCh := 0
  xferCh := 3
  tpw := 16
  table := []
  pclk := 50000000
  targetHz := 25000000
  cpol := 0
  cpha := 0
  dirmode := 0
  tLowMs := 100
  tHighMs := 100
  cols := 240
  rows := 240
  bpp := 2
  srcInc := .increment
  reload := true
  reqsrcBus := 3
  busBase := 0
  xferBase := 0
  busDatAddr := 0
  busResponsive := true
  delaysEnd := true
  requestModes := [0, 1, 2, 3]
  overrunStops := true

/-- `draw_8()`: a byte the spec leaves open, fresh at each use (41_bus_channel.md rule R111, 20_memory.md rule R41; log entry 5). -/
opaque Config.freeByte : Nat → Byte

/-- `draw_32()`: a word the spec leaves open (43_orchestrator.md rule R174; log entry 5). -/
opaque Config.freeWord : Nat → Word

/-- What the environment answers for a byte of system memory that HOST has not written (10_state.md rule R36; log entry 7). -/
opaque Config.initialByte : Nat → Byte

end Sys2Proof
end

