-- ==== Sys2Proof/Syntax.lean ====
section
/-! DEFINITION. The instruction set: one constructor per row of spec/opcode_table.json (30_encoding.md rule R69). -/

namespace Sys2Proof

/-- The two byte sinks `play` is given (40_sequencer.md rules R80 and R85): the orchestrator's binding (rules R160, R161) or
recording callbacks. -/
inductive Sinks where
  | orchestrator
  | recording
  deriving DecidableEq, Repr

/-- The three transitions of the shifter (41_bus_channel.md rule R108). -/
inductive ShiftStep where
  | start (b : Byte)
  | complete
  | rearm
  deriving DecidableEq, Repr

/-- One constructor per row of the opcode table. -/
inductive Instr where
  /-- `ENTRY tag, len, p[0..len-1]` (rule R81). -/
  | entry (tag len : Byte) (params : List Byte)
  /-- INIT, `HARG` = framebuffer base (rule R150). -/
  | init (fb : Addr)
  /-- WRITE_BYTE, the byte in `HARG[7:0]` (rule R171). -/
  | writeByte (harg : Word)
  /-- `HCMD = 0b00` (rule R68). -/
  | hcmdNone
  /-- `HCMD = 0b11` (rule R68, U15). -/
  | hcmdReserved
  /-- Orchestrator step 1 (rule R154). -/
  | step1PinConfig
  /-- Orchestrator step 2 (rule R155). -/
  | step2BusBringup
  /-- Orchestrator step 3 (rule R157). -/
  | step3ResetPulse
  /-- Orchestrator step 4 (rule R159). -/
  | step4CommandPlayback
  /-- Orchestrator step 5 (rule R163). -/
  | step5Window
  /-- Orchestrator step 6 (rule R164). -/
  | step6DataMode
  /-- Orchestrator step 7 (rule R165). -/
  | step7SessionSetup
  /-- Orchestrator step 8 (rule R168). -/
  | step8Trigger
  /-- Orchestrator state 9 (rule R169). -/
  | handoff
  /-- `play` over the table parameter with the given sinks (rule R80). -/
  | play (sinks : Sinks)
  /-- `select` of a Bus Channel (rule R100). -/
  | selectBus (channel : Int)
  /-- `configure(handle, mode_bits)` (rule R102). -/
  | configure (handle : Handle) (modeBits : Byte)
  /-- `set_clock_rate(handle, target_hz)` (rule R103). -/
  | setClockRate (handle : Handle) (targetHz : Nat)
  /-- The prescaler read-back (rule R112). -/
  | readPrescaler (handle : Handle)
  /-- `transfer_byte(handle, out_byte)` (rule R106). -/
  | transferByte (handle : Handle) (outByte : Byte)
  /-- `write_only(handle, out_byte)` (rule R107). -/
  | writeOnly (handle : Handle) (outByte : Byte)
  /-- A step of the shifter (rule R108). -/
  | busShift (step : ShiftStep)
  /-- `select` of a Transfer Channel (rule R120). -/
  | selectXfer (channel : Int)
  /-- `set_source(handle, address, control_bits)` (rule R122). -/
  | setSource (handle : Handle) (address : Addr) (controlBits : Word)
  /-- `set_destination(handle, address, control_bits)` (rule R123). -/
  | setDestination (handle : Handle) (address : Addr) (controlBits : Word)
  /-- `set_control(handle, control_word)` (rule R124). -/
  | setControl (handle : Handle) (controlWord : Word)
  /-- `trigger(handle)` (rule R128). -/
  | trigger (handle : Handle)
  /-- A step of the armed channel (rule R129). -/
  | xferUnit
  /-- `gpio_output(line)` (rule R152). -/
  | gpioOutput (line : Line)
  /-- `gpio_set(line, level)`, `true` is high (rule R152). -/
  | gpioSet (line : Line) (level : Bool)
  /-- `DelayMs(n)` (rule R158). -/
  | delayMs (n : Nat)
  /-- `write_command(b)` in the orchestrator's binding (rule R160). -/
  | writeCommand (b : Byte)
  /-- `write_parameter(b)` in the orchestrator's binding (rule R161). -/
  | writeParameter (b : Byte)
  /-- `TableRead(off)` (rule R41). -/
  | tableRead (off : Nat)
  /-- The RESET port asserted (rule R220). -/
  | reset
  deriving DecidableEq, Repr

/-- The `format` column of spec/opcode_table.json. -/
inductive Format where
  | tlv
  | hcmd
  | ost
  | op
  | agent
  | port
  deriving DecidableEq, Repr

/-- The format of each row (30_encoding.md rule R69): the first three have an encoding, the others none. -/
def Instr.format : Instr → Format
  | .entry .. => .tlv
  | .init _ => .hcmd
  | .writeByte _ => .hcmd
  | .hcmdNone => .hcmd
  | .hcmdReserved => .hcmd
  | .step1PinConfig => .ost
  | .step2BusBringup => .ost
  | .step3ResetPulse => .ost
  | .step4CommandPlayback => .ost
  | .step5Window => .ost
  | .step6DataMode => .ost
  | .step7SessionSetup => .ost
  | .step8Trigger => .ost
  | .handoff => .ost
  | .play _ => .op
  | .selectBus _ => .op
  | .configure .. => .op
  | .setClockRate .. => .op
  | .readPrescaler _ => .op
  | .transferByte .. => .op
  | .writeOnly .. => .op
  | .busShift _ => .agent
  | .selectXfer _ => .op
  | .setSource .. => .op
  | .setDestination .. => .op
  | .setControl .. => .op
  | .trigger _ => .op
  | .xferUnit => .agent
  | .gpioOutput _ => .op
  | .gpioSet .. => .op
  | .delayMs _ => .op
  | .writeCommand _ => .op
  | .writeParameter _ => .op
  | .tableRead _ => .op
  | .reset => .port

end Sys2Proof
end

