-- ==== Sys2Proof/WellFormed.lean ====
section
/-! DEFINITION. What an instruction's fields must satisfy, and what a configuration must satisfy for a run without refusal (00_scope.md rule R7). -/

namespace Sys2Proof

/-- A Transfer Channel handle names one of the four channels or is `none` (42_transfer_engine.md rule R120). -/
def xferHandleOk : Handle → Bool
  | none => true
  | some ch => decide (ch < nXfer)

/-- The checks on an instruction's fields: an entry's length byte counts its parameters (30_encoding.md rule R61), a transfer
handle is one that `select` can return (rule R120), a target rate is positive (41_bus_channel.md rule R103). -/
def Instr.wellFormed : Instr → Bool
  | .entry _ len params => params.length == len.toNat
  | .setClockRate _ hz => decide (0 < hz)
  | .setSource h _ _ => xferHandleOk h
  | .setDestination h _ _ => xferHandleOk h
  | .setControl h _ => xferHandleOk h
  | .trigger h => xferHandleOk h
  | .init _ => true
  | .writeByte _ => true
  | .hcmdNone => true
  | .hcmdReserved => true
  | .step1PinConfig => true
  | .step2BusBringup => true
  | .step3ResetPulse => true
  | .step4CommandPlayback => true
  | .step5Window => true
  | .step6DataMode => true
  | .step7SessionSetup => true
  | .step8Trigger => true
  | .handoff => true
  | .play _ => true
  | .selectBus _ => true
  | .configure _ _ => true
  | .readPrescaler _ => true
  | .transferByte _ _ => true
  | .writeOnly _ _ => true
  | .busShift _ => true
  | .selectXfer _ => true
  | .xferUnit => true
  | .gpioOutput _ => true
  | .gpioSet _ _ => true
  | .delayMs _ => true
  | .writeCommand _ => true
  | .writeParameter _ => true
  | .tableRead _ => true
  | .reset => true

end Sys2Proof
end

