-- ==== Sys2Proof/Decode.lean ====
section
/-! DEFINITION. The three encodings of 30_encoding.md (table entries, host command codes, orchestrator step codes), their decoder,
`Parse` of rule R64, and the encoder written from the same tables. -/

namespace Sys2Proof

/-- Where an instruction's bits stand (30_encoding.md rule R69): table bytes, the port pair `HCMD`/`HARG`, the register `ORCH.OST`. -/
inductive Code where
  | table (bytes : List Byte)
  | hcmd (code : BitVec 2) (harg : Word)
  | ost (code : BitVec 4)
  deriving DecidableEq, Repr

/-- Why bits are no instruction. -/
inductive DecodeError where
  /-- Fewer than the two header bytes stand before the table's end (rule R65 kind 1). -/
  | truncatedHeader
  /-- The length byte claims more parameters than stand before the table's end (rule R65 kind 1). -/
  | truncatedParameters
  /-- `OST = 0` (IDLE) is no step: the block waits for INIT (70_reset_and_hazards.md rule R221). -/
  | idleHasNoStep
  /-- `OST` 10 to 15 are reserved (10_state.md rule R10, U14). -/
  | reservedStep (code : BitVec 4)
  deriving DecidableEq, Repr

/-- The fields of one entry of format TLV and the bytes after it (30_encoding.md rules R61 and R66). -/
def splitEntry : List Byte → Except DecodeError (Byte × Byte × List Byte × List Byte)
  | [] => .error .truncatedHeader
  | [_] => .error .truncatedHeader
  | tag :: len :: rest =>
    if len.toNat ≤ rest.length then .ok (tag, len, rest.take len.toNat, rest.drop len.toNat)
    else .error .truncatedParameters

/-- Decode the entry at the front of the table bytes that remain. -/
def decodeEntry (bytes : List Byte) : Except DecodeError (Instr × List Byte) :=
  match splitEntry bytes with
  | .ok (tag, len, params, rest) => .ok (.entry tag len params, rest)
  | .error e => .error e

/-- Decode a host command (30_encoding.md rule R68). -/
def decodeHcmd (code : BitVec 2) (harg : Word) : Instr :=
  match code.toNat with
  | 0 => .hcmdNone
  | 1 => .init harg
  | 2 => .writeByte harg
  | _ => .hcmdReserved

/-- Decode an orchestrator step code (10_state.md rule R10). -/
def decodeOst (code : BitVec 4) : Except DecodeError Instr :=
  match code.toNat with
  | 0 => .error .idleHasNoStep
  | 1 => .ok .step1PinConfig
  | 2 => .ok .step2BusBringup
  | 3 => .ok .step3ResetPulse
  | 4 => .ok .step4CommandPlayback
  | 5 => .ok .step5Window
  | 6 => .ok .step6DataMode
  | 7 => .ok .step7SessionSetup
  | 8 => .ok .step8Trigger
  | 9 => .ok .handoff
  | _ => .error (.reservedStep code)

/-- The decoder, total on every code: an instruction and the table bytes after it. -/
def decode : Code → Except DecodeError (Instr × List Byte)
  | .table bytes => decodeEntry bytes
  | .hcmd code harg => .ok (decodeHcmd code harg, [])
  | .ost code =>
    match decodeOst code with
    | .ok i => .ok (i, [])
    | .error e => .error e

/-- The recursion of `Parse` (30_encoding.md rule R64) on the bytes that remain; each entry takes at least two, so as much fuel
as there are bytes is enough. -/
def parseBytes : Nat → List Byte → Option (List (Byte × List Byte))
  | _, [] => some []
  | 0, _ :: _ => none
  | n + 1, b :: bs =>
    match splitEntry (b :: bs) with
    | .ok (tag, _, params, rest) => (parseBytes n rest).map ((tag, params) :: ·)
    | .error _ => none

/-- `Parse(T, L)` (30_encoding.md rule R64); `none` is `malformed`. -/
def parseTable (table : List Byte) : Option (List (Byte × List Byte)) := parseBytes table.length table

/-- `WellFormed(T, L)` (30_encoding.md rule R64). -/
def tableWellFormed (table : List Byte) : Bool := (parseTable table).isSome

/-- The encoder: the row's code, or `none` for a row the spec gives no encoding (30_encoding.md rule R69). -/
def encode : Instr → Option Code
  | .entry tag len params => some (.table (tag :: len :: params))
  | .init fb => some (.hcmd 1#2 fb)
  | .writeByte harg => some (.hcmd 2#2 harg)
  | .hcmdNone => some (.hcmd 0#2 0#32)
  | .hcmdReserved => some (.hcmd 3#2 0#32)
  | .step1PinConfig => some (.ost 1#4)
  | .step2BusBringup => some (.ost 2#4)
  | .step3ResetPulse => some (.ost 3#4)
  | .step4CommandPlayback => some (.ost 4#4)
  | .step5Window => some (.ost 5#4)
  | .step6DataMode => some (.ost 6#4)
  | .step7SessionSetup => some (.ost 7#4)
  | .step8Trigger => some (.ost 8#4)
  | .handoff => some (.ost 9#4)
  | .play _ => none
  | .selectBus _ => none
  | .configure _ _ => none
  | .setClockRate _ _ => none
  | .readPrescaler _ => none
  | .transferByte _ _ => none
  | .writeOnly _ _ => none
  | .busShift _ => none
  | .selectXfer _ => none
  | .setSource _ _ _ => none
  | .setDestination _ _ _ => none
  | .setControl _ _ => none
  | .trigger _ => none
  | .xferUnit => none
  | .gpioOutput _ => none
  | .gpioSet _ _ => none
  | .delayMs _ => none
  | .writeCommand _ => none
  | .writeParameter _ => none
  | .tableRead _ => none
  | .reset => none

/-- The byte image of one entry `{tag, len, [params]}` (30_encoding.md rule R67), its length byte the number of parameters. -/
def entryBytes (e : Byte × List Byte) : List Byte := e.1 :: BitVec.ofNat 8 e.2.length :: e.2

/-- The format of a code. -/
def Code.format : Code → Format
  | .table _ => .tlv
  | .hcmd _ _ => .hcmd
  | .ost _ => .ost

/-- The byte numbered `k` of a table word, the first byte holding bits 7 to 0. -/
def wordByte (w k : Nat) : Byte := BitVec.ofNat 8 (w / 256 ^ k)

/-- The code that a row's bits `w` stand for. Two bytes or more are table bytes, followed by as many zeros as the length byte
says; a shorter word is a host command code if it has at most two bits or is below 4, and otherwise a step code (log entry 17). -/
def codeOfTableWord (nbits w : Nat) : Code :=
  if 16 ≤ nbits then .table ((List.range ((nbits + 7) / 8)).map (wordByte w) ++ List.replicate (wordByte w 1).toNat 0#8)
  else if nbits ≤ 2 ∨ (4 < nbits ∧ w < 4) then .hcmd (BitVec.ofNat 2 w) 0#32
  else .ost (BitVec.ofNat 4 w)

/-- What the decoder reads from a row of spec/opcode_table.json whose bits are `w`. -/
def decodeTableWord (nbits w : Nat) : Option Instr :=
  match decode (codeOfTableWord nbits w) with
  | .ok (i, _) => some i
  | .error _ => none

end Sys2Proof
end

