-- ==== Sys2Proof/Machine/State.lean ====
section
/-! DEFINITION. The state of the block (10_state.md), its reset, and the reasons a step can stop. -/

namespace Sys2Proof.Machine

/-- `ORCH.OST`, the ten values rule R10 of 10_state.md names. -/
inductive Ost where
  | idle
  | pincfg
  | busup
  | resetPulse
  | play
  | window
  | dataMode
  | xsetup
  | trigger
  | handoff
  deriving DecidableEq, Repr

/-- `SEQ.PH` (10_state.md rule R14). -/
inductive SeqPhase where
  | head
  | cmd
  | param
  deriving DecidableEq, Repr

/-- `ORCH.BPH` (10_state.md rule R16): no transfer, the wait before the data write, the wait after it. -/
inductive BytePhase where
  | idle
  | w1
  | w2
  deriving DecidableEq, Repr

/-- The direction and level bits of the two lines (10_state.md rule R19); `true` is output mode, or high. -/
structure Gpio where
  rstOe : Bool
  rst : Bool
  dcOe : Bool
  dc : Bool
  deriving DecidableEq, Repr

/-- The register block of the selected Bus Channel (10_state.md rules R20 to R25). -/
structure BusBlock where
  con : Byte
  ready : Bool
  /-- The received byte, until the next shift completes (decision D14). -/
  dat : Byte
  pre : Byte
  shift : Byte
  deriving DecidableEq, Repr

/-- The register block of the selected Transfer Channel (10_state.md rules R26 to R33). -/
structure XferBlock where
  src : Word
  srcc : Word
  dst : Word
  dstc : Word
  con : Word
  trigOn : Bool
  trigSwreq : Bool
  csrc : Addr
  cdst : Addr
  ccnt : BitVec 20
  deriving DecidableEq, Repr

/-- An event of the panel-visible trace `TR` (00_scope.md rule R8). -/
inductive Event where
  | dir (line : Line)
  | rst (level : Bool)
  | dc (level : Bool)
  | wait (ms : Nat)
  | tx (dc : Bool) (b : Byte)
  deriving DecidableEq, Repr

/-- An event `RegW(name, value)` of the register-write trace `RW` (00_scope.md rule R8), one constructor per register. -/
inductive RegW where
  | busCon (v : Byte)
  | busDat (v : Byte)
  | busPre (v : Byte)
  | xferSrc (v : Word)
  | xferSrcc (v : Word)
  | xferDst (v : Word)
  | xferDstc (v : Word)
  | xferCon (v : Word)
  | xferTrig (v : Word)
  deriving DecidableEq, Repr

/-- A call of one of `play`'s two sinks, as a recording sink writes it down (40_sequencer.md rule R85). -/
inductive SinkCall where
  | command (b : Byte)
  | parameter (b : Byte)
  deriving DecidableEq, Repr

/-- The value an operation returned to its caller. -/
inductive OpResult where
  | nothing
  | handle (h : Handle)
  | byte (b : Byte)
  deriving DecidableEq, Repr

/-- A move of one of the agents of 00_scope.md rule R4. -/
inductive Move where
  /-- ORCH/SEQ takes the next transition of its step. -/
  | orch
  /-- BUS completes the shift in progress. -/
  | bus
  /-- XFER moves a unit, if it is enabled. -/
  | xfer
  /-- ENV answers the delay the thread is in: the time has passed. -/
  | env
  /-- HOST drives the command port. -/
  | host (hcmd : BitVec 2) (harg : Word)
  /-- HOST writes a byte of the framebuffer. -/
  | hostWrite (a : Addr) (b : Byte)
  /-- The RESET port is asserted. -/
  | reset
  deriving DecidableEq, Repr

/-- The whole state. -/
structure State where
  /-- The parameters (00_scope.md rule R7); no step changes them. -/
  cfg : Config
  /-- `ORCH.OST` (R10). -/
  ost : Ost
  /-- `ORCH.SUB` (R11). -/
  sub : BitVec 2
  /-- `ORCH.BPH` (R16). -/
  bph : BytePhase
  /-- The thread stands between the two register writes of an action: nothing wider than one access is indivisible (20_memory.md rule
  R46, log entry 31). -/
  midAction : Bool
  /-- The input of the port `DELAY_MS` (00_scope.md rule R6): ENV has answered the delay in progress (log entry 21). -/
  delayDone : Bool
  /-- `ORCH.FBB` (R17). -/
  fbb : Addr
  /-- `ORCH.BH` (R17). -/
  bh : Handle
  /-- `ORCH.XH` (R17). -/
  xh : Handle
  /-- `SEQ.TP` (R12). -/
  tp : Nat
  /-- `SEQ.REM` (R13). -/
  rem : Byte
  /-- `SEQ.PH` (R14). -/
  ph : SeqPhase
  /-- `SEQ.BYTE` (R15). -/
  byte : Byte
  /-- `MALFORMED` (R18). -/
  malformed : Bool
  /-- The two output lines (R19). -/
  gpio : Gpio
  /-- The selected Bus Channel (R20). -/
  bus : BusBlock
  /-- The selected Transfer Channel (R26). -/
  xfer : XferBlock
  /-- System memory (R40): the bytes HOST has written, addresses strictly rising. -/
  mem : List Host.Cell
  /-- `TR` (R38). -/
  tr : List Event
  /-- `RW` (R38). -/
  rw : List RegW
  /-- The model's own: what recording sinks were called with (log entry 16). -/
  calls : List SinkCall
  /-- The model's own: the last value an operation returned (log entry 15). -/
  result : OpResult
  /-- The model's own: how many free values have been used (log entry 5). -/
  drawn : Nat
  /-- The model's own: the moves still to come, next first (log entry 1). -/
  agenda : List Move
  deriving DecidableEq, Repr

/-- Why the machine stops with a fault. -/
inductive Fault where
  /-- A table read at or past `L` in a configuration that stops there. Raised by `TableRead`, and so by `play` and step 4.
  Safe: the hardware goes on (20_memory.md rule R41). -/
  | tableOverrun
  deriving DecidableEq, Repr

/-- Why the machine has no next state. Every one is safe: the model stops where the spec gives the hardware no behaviour. -/
inductive Refusal where
  /-- An instruction without a meaning, named by its mnemonic. Raised by `exec`'s arms. Safe. -/
  | notModelled (mnemonic : String)
  /-- `refuse(prescaler_range)`, 41_bus_channel.md rule R104. Raised by set_clock_rate and step 2. Safe. -/
  | prescalerRange
  /-- `refuse(count_range)`, 42_transfer_engine.md rule R125. Raised by step 7 and xfer_unit. Safe. -/
  | countRange
  /-- `refuse(unit_size)`, rule R126. Raised by xfer_unit. Safe. -/
  | unitSize
  /-- `refuse(demand_mode)`, rule R133. Raised by xfer_unit. Safe. -/
  | demandMode
  /-- `refuse(software_trigger)`, rule R130. Raised by xfer_unit. Safe. -/
  | softwareTrigger
  /-- `refuse(write_while_streaming)`, 43_orchestrator.md rule R171. Raised by WRITE_BYTE. Safe. -/
  | writeWhileStreaming
  /-- `refuse(write_before_init)`, rule R171. Raised by WRITE_BYTE. Safe. -/
  | writeBeforeInit
  /-- `refuse(reinit)`, rule R172. Raised by INIT. Safe. -/
  | reinit
  /-- `refuse(stream_without_bus)`, rule R174 and U22. Raised by step 8 and xfer_unit. Safe. -/
  | streamWithoutBus
  /-- A write of `BUS.DAT` while `READY = 0` (41_bus_channel.md rule R108, U6). Raised by bus_shift's start. Safe. -/
  | writeWhileBusy
  /-- `trigger` on a channel already armed (42_transfer_engine.md rule R128, U8). Raised by trigger and step 8. Safe. -/
  | triggerArmed
  /-- A handle of a channel the block does not select (10_state.md rule R39, U26). Raised by the driver operations. Safe. -/
  | channelNotCarried
  /-- A source that is a peripheral register (rule R129: "the only case in scope" is memory). Raised by xfer_unit. Safe. -/
  | sourceNotMemory
  /-- A destination other than the selected bus data register (rule R129, 00_scope.md section 3). Raised by xfer_unit. Safe. -/
  | destinationNotBusData
  /-- A pass whose source address would pass `2^32 - 1` with units left (U10). Raised by xfer_unit. Safe. -/
  | sourceWraps
  /-- An orchestrator step while `OST` names another (43_orchestrator.md rule R151). Raised by the nine steps. Safe: `step` never does it. -/
  | stepOutOfOrder
  /-- A `SUB` that the step does not have (10_state.md rule R11). Raised by steps 1, 2, 7. Safe: no run reaches it. -/
  | subOutOfRange
  /-- A byte transfer begun while another is in progress (41_bus_channel.md rule R106: a call never overlaps another). Raised
  by ENTRY, play, write_command, write_parameter, WRITE_BYTE. Safe. -/
  | transferInProgress
  /-- A framebuffer write during bring-up (70_reset_and_hazards.md rule R243: HOST has no such move). Raised by `step`. Safe. -/
  | hostOutsideContract
  deriving DecidableEq, Repr

/-- The outcome of an instruction or a step. -/
abbrev Result := Host.Outcome State Fault Refusal

/-- The state after RESET under a configuration (10_state.md rule R37); the elements that rule leaves unspecified are 0 (log entry 2). -/
def State.resetWith (c : Config) : State where
  cfg := c
  ost := .idle
  sub := 0#2
  bph := .idle
  midAction := false
  delayDone := false
  fbb := 0#32
  bh := none
  xh := none
  tp := 0
  rem := 0#8
  ph := .head
  byte := 0#8
  malformed := false
  gpio := ⟨false, false, false, false⟩
  bus := ⟨0#8, true, 0#8, 0#8, 0#8⟩
  xfer := ⟨0#32, 0#32, 0#32, 0#32, 0#32, false, false, 0#32, 0#32, 0#20⟩
  mem := []
  tr := []
  rw := []
  calls := []
  result := .nothing
  drawn := 0
  agenda := []

/-- The machine right after reset, under the example configuration (log entry 3). -/
def State.reset : State := State.resetWith Config.sample

end Sys2Proof.Machine
end

