-- ==== Sys2Proof/Machine/Operands.lean ====
section
/-! DEFINITION. Operand words of the driver operations (30_encoding.md rules R70 to R74), the fields of the registers (10_state.md
rules R21, R28, R30, R31), and channel selection. -/

namespace Sys2Proof.Machine

/-- `mode_bits` from its five fields (30_encoding.md rule R70). -/
def modeWord (dirmode : BitVec 2) (clken master cpol cpha : BitVec 1) : Byte :=
  0#1 ++ dirmode ++ clken ++ master ++ cpol ++ cpha ++ 0#1

/-- `MODE_BITS`, the orchestrator's operand of `configure`: master, clock enabled (rule R70). -/
def modeBits (c : Config) : Byte := modeWord c.dirmode 1#1 1#1 c.cpol c.cpha

/-- `BUS.CON.DIRMODE` (10_state.md rule R21). -/
def conDirmode (v : Byte) : BitVec 2 := v.extractLsb' 5 2

/-- `BUS.CON.CLKEN`. -/
def conClken (v : Byte) : Bool := v.getLsbD 4

/-- `BUS.CON.MASTER`. -/
def conMaster (v : Byte) : Bool := v.getLsbD 3

/-- `BUS.CON.CPOL`. -/
def conCpol (v : Byte) : Bool := v.getLsbD 2

/-- `BUS.CON.CPHA`. -/
def conCpha (v : Byte) : Bool := v.getLsbD 1

/-- `control_bits` from its two fields (30_encoding.md rule R71). -/
def controlBits (loc inc : BitVec 1) : Word := 0#30 ++ loc ++ inc

/-- `SRCC_BITS`: memory, incrementing or fixed as `SRC_INC` says (rule R71). -/
def srccBits (c : Config) : Word :=
  match c.srcInc with
  | .increment => controlBits 0#1 0#1
  | .fixed => controlBits 0#1 1#1

/-- `DSTC_BITS`: peripheral register, fixed (rule R71). -/
def dstcBits : Word := controlBits 1#1 1#1

/-- `LOC` of a control word: peripheral register (10_state.md rules R28 and R30). -/
def locPeripheral (v : Word) : Bool := v.getLsbD 1

/-- `INC` of a control word: fixed (rules R28 and R30). -/
def incFixed (v : Word) : Bool := v.getLsbD 0

/-- `control_word` from its fields (30_encoding.md rule R72). -/
def controlWord (mode : BitVec 1) (reqsrc : BitVec 3) (trigsel noreload : BitVec 1) (usize : BitVec 2) (count : BitVec 20) : Word :=
  mode ++ 0#4 ++ reqsrc ++ trigsel ++ noreload ++ usize ++ count

/-- `CTL_WORD`, the orchestrator's operand of `set_control` (rule R72); `none` where `COUNT` is out of range (42_transfer_engine.md
rule R125). -/
def ctlWord (c : Config) : Option Word :=
  if 1 ≤ c.count ∧ c.count < 2 ^ 20 then
    some (controlWord 1#1 c.reqsrcBus 1#1 (if c.reload then 0#1 else 1#1) 0#2 (BitVec.ofNat 20 c.count))
  else none

/-- `XFER.CON.MODE` is handshake (10_state.md rule R31). -/
def ctlHandshake (v : Word) : Bool := v.getLsbD 31

/-- `XFER.CON.REQSRC`. -/
def ctlReqsrc (v : Word) : BitVec 3 := v.extractLsb' 24 3

/-- `XFER.CON.TRIGSEL` is hardware. -/
def ctlHardware (v : Word) : Bool := v.getLsbD 23

/-- `XFER.CON.NORELOAD` is set: reload off. -/
def ctlNoReload (v : Word) : Bool := v.getLsbD 22

/-- `XFER.CON.USIZE`. -/
def ctlUsize (v : Word) : BitVec 2 := v.extractLsb' 20 2

/-- `XFER.CON.COUNT`. -/
def ctlCount (v : Word) : BitVec 20 := v.extractLsb' 0 20

/-- The word `trigger` writes (30_encoding.md rule R73). -/
def triggerWord (con : Word) : Word := if ctlHardware con then 2#32 else 3#32

/-- `ON` and `SWREQ` of a trigger word (10_state.md rule R32). -/
def trigFieldOn (v : Word) : Bool := v.getLsbD 1

/-- `SWREQ` of a trigger word. -/
def trigFieldSwreq (v : Word) : Bool := v.getLsbD 0

/-- `q = floor(floor(PCLK / 2) / target_hz)` (41_bus_channel.md rule R103); division by zero gives 0, which is out of range. -/
def prescalerQuotient (pclk hz : Nat) : Nat := pclk / 2 / hz

/-- The value `set_clock_rate` writes, where the quotient is in range (rule R104). -/
def prescaler (pclk hz : Nat) : Option Byte :=
  let q := prescalerQuotient pclk hz
  if 1 ≤ q ∧ q ≤ 256 then some (BitVec.ofNat 8 (q - 1)) else none

/-- `select_bus(ch)` (41_bus_channel.md rule R100). -/
def selectBus (c : Config) (ch : Int) : Handle := if 0 ≤ ch ∧ ch < c.nBus then some ch.toNat else none

/-- `select_xfer(ch)` (42_transfer_engine.md rule R120). -/
def selectXfer (ch : Int) : Handle := if 0 ≤ ch ∧ ch < nXfer then some ch.toNat else none

/-- The address step 7 gives as destination: `BUS_DAT_ADDR(BUS_CH)`, a free word for an unsupported channel (43_orchestrator.md
rule R174). -/
def destinationAddr (s : State) : Addr :=
  match s.bh with
  | some _ => s.cfg.busDatAddr
  | none => Config.freeWord s.drawn

end Sys2Proof.Machine
end

