-- ==== Sys2Proof/Machine/Flags.lean ====
section
/-! DEFINITION. The flags anything tests (10_state.md rule R35): ready as the request signal, the armed channel, and what the waits see. -/

namespace Sys2Proof.Machine

/-- `BUSREQ = (BUS.STA.READY = 1)` (41_bus_channel.md rule R110). -/
def busReq (s : State) : Bool := s.bus.ready

/-- The status register as software reads it: `READY` in bit 0 (10_state.md rule R22; the bits above are never read). -/
def statusReady (s : State) : Bool := s.bus.ready

/-- XFER's enabling condition (42_transfer_engine.md rule R129). -/
def xferEnabled (s : State) : Bool :=
  s.xfer.trigOn && ctlHardware s.xfer.con && (ctlReqsrc s.xfer.con == s.cfg.reqsrcBus) && busReq s

/-- A software request is pending, in place of `BUSREQ` (42_transfer_engine.md rule R130). -/
def softwareRequest (s : State) : Bool := s.xfer.trigOn && s.xfer.trigSwreq

/-- The milliseconds the thread has asked ENV for, where it stands in one of the two delays of step 3 (43_orchestrator.md rules R157
and R158). -/
def delayRequested (s : State) : Option Nat :=
  if s.ost = .resetPulse ∧ s.sub = 1#2 then some s.cfg.tLowMs
  else if s.ost = .resetPulse ∧ s.sub = 3#2 then some s.cfg.tHighMs
  else none

/-- The thread stands in one of the two delays of step 3. -/
def inDelay (s : State) : Bool := (delayRequested s).isSome

/-- A delay is over: ENV has answered it, or answers every delay in time (rule R158). -/
def delayOver (s : State) : Bool := s.cfg.delaysEnd || s.delayDone

/-- The thread of control stands in a wait whose condition is false: a busy-wait (41_bus_channel.md rule R106) or a delay (rule R158). -/
def threadWaits (s : State) : Bool := ((s.bph != .idle) && !statusReady s) || (inDelay s && !delayOver s)

/-- The thread of control has something to do: a bring-up step, or a byte transfer in progress (43_orchestrator.md rules R151, R169). -/
def threadActive (s : State) : Bool := (s.ost != .idle && s.ost != .handoff) || (s.bph != .idle)

/-- Play is over at the head of the outer loop when the pointer has reached `L` (40_sequencer.md rule R80). -/
def playOver (s : State) : Bool := decide (s.cfg.tableLen ≤ s.tp)

/-- Set the sticky `MALFORMED` (10_state.md rule R18). -/
def setMalformed (s : State) : State := { s with malformed := true }

end Sys2Proof.Machine
end

