-- ==== Sys2Proof/Machine/Memory.lean ====
section
/-! DEFINITION. System memory (20_memory.md rule R40) as a list of cells in one canonical form. -/

namespace Sys2Proof.Machine

/-- The byte HOST last wrote at an address; `none` where nothing is listed. -/
def memLookup (m : List Host.Cell) (a : Nat) : Option Byte :=
  match m with
  | [] => none
  | (k, b) :: rest => if k = a then some b else memLookup rest a

/-- What an address that is not listed reads as in the list itself: no value (the environment answers instead, log entry 7). -/
def memUnlisted : Option Byte := none

/-- The list after a byte is written, still in rising order of addresses. -/
def memInsert (m : List Host.Cell) (a : Nat) (b : Byte) : List Host.Cell :=
  match m with
  | [] => [(a, b)]
  | (k, c) :: rest =>
    if a < k then (a, b) :: (k, c) :: rest
    else if a = k then (a, b) :: rest
    else (k, c) :: memInsert rest a b

/-- Every address of the list lies above `lo` (all of them, with no bound), below `2^32`, and they rise strictly. -/
def memRising (lo : Option Nat) (m : List Host.Cell) : Bool :=
  match m with
  | [] => true
  | (k, _) :: rest => (lo.all (· < k)) && decide (k < 2 ^ 32) && memRising (some k) rest

/-- The canonical form: addresses of the address space, strictly rising. No listed byte is what an unlisted address reads as,
which is no value at all. -/
def memWf (m : List Host.Cell) : Bool := memRising none m

/-- `MemRead(addr, 1)` (00_scope.md section 7): the byte HOST last wrote there, or what the environment answers. -/
def memRead (m : List Host.Cell) (a : Addr) : Byte := (memLookup m a.toNat).getD (Config.initialByte a.toNat)

/-- HOST's write of one framebuffer byte (20_memory.md rule R49). -/
def memWrite (m : List Host.Cell) (a : Addr) (b : Byte) : List Host.Cell := memInsert m a.toNat b

end Sys2Proof.Machine
end

