-- ==== Sys2Proof/Machine/Ops.lean ====
section
/-! DEFINITION. The named operations every meaning is made of: traces, the register write primitive with its side effects, the shifter,
GPIO, the busy-waits and byte transfer, table reads, and the advance of the orchestrator. The block has no exceptions, so there
is no exception entry and no return from one to share (60_exceptions.md rules R190, R197, R198). -/

namespace Sys2Proof.Machine

/-- The next state of a result, where there is one. -/
def nextOf (r : Result) : Option State :=
  match r with
  | .next s => some s
  | .fault _ => none
  | .refused _ => none

/-- Go on from a next state; a stop stays a stop. -/
def andThen (r : Result) (f : State → Result) : Result :=
  match r with
  | .next s => f s
  | .fault e => .fault e
  | .refused e => .refused e

/-- `emit e` (00_scope.md section 7). -/
def emit (e : Event) (s : State) : State := { s with tr := s.tr ++ [e] }

/-- Leave a returned value where the caller reads it. -/
def returning (r : OpResult) (s : State) : State := { s with result := r }

/-- Use one free value. -/
def draw (s : State) : State := { s with drawn := s.drawn + 1 }

/-- `start` of the shifter: the written byte begins to shift out (41_bus_channel.md rule R108); `BUS.DAT` holds the received byte of the
shift before until this one completes (10_state.md rule R23, decision D14). -/
def startShift (b : Byte) (s : State) : State :=
  emit (.tx s.gpio.dc b) { s with bus := { s.bus with shift := b, ready := false } }

/-- `complete` of the shifter: a free byte has been shifted in (rules R108 and R111). -/
def completeShift (s : State) : State :=
  { draw s with bus := { s.bus with dat := Config.freeByte s.drawn, ready := true } }

/-- `re-arm` of the shifter: a shift in progress is abandoned (rule R108). -/
def rearmShift (s : State) : State := { s with bus := { s.bus with ready := true } }

/-- Load the working registers (42_transfer_engine.md rules R127 and R131). -/
def loadWorking (x : XferBlock) : XferBlock := { x with csrc := x.src, cdst := x.dst, ccnt := ctlCount x.con }

/-- A write of `XFER.TRIG`: its two fields, and the load where `ON` goes from 0 to 1 (rule R127). -/
def storeTrig (v : Word) (x : XferBlock) : XferBlock :=
  let armed := if trigFieldOn v && !x.trigOn then loadWorking x else x
  { armed with trigOn := trigFieldOn v, trigSwreq := trigFieldSwreq v }

/-- A write of `BUS.CON`: a zero re-arms the shifter (10_state.md rule R21). -/
def storeBusCon (v : Byte) (s : State) : State :=
  let stored := { s with bus := { s.bus with con := v } }
  if v = 0#8 then rearmShift stored else stored

/-- What a register write stores and does (20_memory.md rule R45). -/
def storeReg (w : RegW) (s : State) : State :=
  match w with
  | .busCon v => storeBusCon v s
  | .busDat v => startShift v s
  | .busPre v => { s with bus := { s.bus with pre := v } }
  | .xferSrc v => { s with xfer := { s.xfer with src := v } }
  | .xferSrcc v => { s with xfer := { s.xfer with srcc := v } }
  | .xferDst v => { s with xfer := { s.xfer with dst := v } }
  | .xferDstc v => { s with xfer := { s.xfer with dstc := v } }
  | .xferCon v => { s with xfer := { s.xfer with con := v } }
  | .xferTrig v => { s with xfer := storeTrig v s.xfer }

/-- `RegWrite(R, v)` by the software thread: recorded in `RW`, then stored with its side effects (00_scope.md section 7, rule R51). -/
def regWrite (w : RegW) (s : State) : State := storeReg w { s with rw := s.rw ++ [w] }

/-- `gpio_output(line)` (43_orchestrator.md rule R152). -/
def gpioOutput (line : Line) (s : State) : State :=
  match line with
  | .rst => emit (.dir .rst) { s with gpio := { s.gpio with rstOe := true } }
  | .dc => emit (.dir .dc) { s with gpio := { s.gpio with dcOe := true } }

/-- `gpio_set(line, level)` (rule R152). -/
def gpioSet (line : Line) (level : Bool) (s : State) : State :=
  match line with
  | .rst => emit (.rst level) { s with gpio := { s.gpio with rst := level } }
  | .dc => emit (.dc level) { s with gpio := { s.gpio with dc := level } }

/-- The end of `DelayMs(n)`: at least `n` milliseconds have passed, and ENV's answer is used up (rule R158). -/
def delay (n : Nat) (s : State) : State := emit (.wait n) { s with delayDone := false }

/-- `DelayMs(n)` and then `k`; until the delay is over the thread has no enabled step (rule R158). -/
def delayThen (n : Nat) (k : State → State) (s : State) : State := if delayOver s then k (delay n s) else s

/-- ENV answers the delay the thread is in; it has no other step (00_scope.md rule R4, log entry 21). -/
def answerDelay (s : State) : State := if inDelay s then { s with delayDone := true } else s

/-- `wait until RegRead(BUS.STA).READY = 1`, inside an operation: where the bus is busy and responsive, BUS completes the shift; where
it is not responsive the wait does not end and there is no state after it (41_bus_channel.md rule R109, log entry 8). -/
def waitReady (s : State) : Option State :=
  if statusReady s then some s
  else if s.cfg.busResponsive then some (completeShift s)
  else none

/-- The second busy-wait of a byte transfer and its return (rule R106); a wait that does not end leaves `BPH = W2`. -/
def runSecondWait (s : State) : State :=
  match waitReady s with
  | some t => { t with bph := .idle }
  | none => s

/-- The first busy-wait, the data write and the rest (rule R106); a wait that does not end leaves `BPH = W1`. -/
def runFirstWait (b : Byte) (s : State) : State :=
  match waitReady s with
  | some t => runSecondWait { regWrite (.busDat b) t with bph := .w2 }
  | none => s

/-- A byte transfer on the selected Bus Channel, begun where `BPH = NONE` and gone on with where it is not (rules R106 and R107). The rules
say only that calls never overlap; that a call asked for at `W1` writes its own operand, in the place of the byte of the call that
waits, and that one asked for at `W2` writes nothing, is the model's choice (log entry 19). -/
def runTransfer (b : Byte) (s : State) : State :=
  match s.bph with
  | .idle => runFirstWait b { s with bph := .w1 }
  | .w1 => runFirstWait b s
  | .w2 => runSecondWait s

/-- The byte transfer on a handle the orchestrator holds: nothing on `none` (rule R101). -/
def transferOn (h : Handle) (b : Byte) (s : State) : State :=
  match h with
  | none => s
  | some _ => runTransfer b s

/-- Register writes in their order, the whole of an operation (20_memory.md rule R51). -/
def regWrites (ws : List RegW) (s : State) : State :=
  match ws with
  | [] => s
  | w :: rest => regWrites rest (regWrite w s)

/-- The writes an operation makes on a handle: none on the handle `none` (41_bus_channel.md rule R101, 42_transfer_engine.md rule R121). -/
def writesOn (h : Handle) (ws : List RegW) : List RegW :=
  match h with
  | none => []
  | some _ => ws

/-- One register access of an action whose writes on a handle are `ws`, two or none, since nothing wider is indivisible (20_memory.md
rule R46): the first, or the second, with which the action is over and `k` follows. -/
def oneWriteOf (ws : List RegW) (k : State → State) (s : State) : State :=
  match ws with
  | first :: second :: _ =>
    if s.midAction then k { regWrite second s with midAction := false } else { regWrite first s with midAction := true }
  | [w] => k (regWrite w s)
  | [] => k s

/-- The two writes of `configure`: zero, then the mode (41_bus_channel.md rule R102). -/
def configureWrites (m : Byte) : List RegW := [.busCon 0#8, .busCon m]

/-- The two writes of `set_source`, address first (42_transfer_engine.md rule R122). -/
def sourceWrites (a : Addr) (c : Word) : List RegW := [.xferSrc a, .xferSrcc c]

/-- The two writes of `set_destination` (rule R123). -/
def destinationWrites (a : Addr) (c : Word) : List RegW := [.xferDst a, .xferDstc c]

/-- `configure` on a handle the orchestrator holds (rule R102). -/
def configureOn (h : Handle) (m : Byte) (s : State) : State := regWrites (writesOn h (configureWrites m)) s

/-- `set_clock_rate` on a handle the orchestrator holds (rules R103 and R104). -/
def setClockRateOn (h : Handle) (hz : Nat) (s : State) : Result :=
  match h with
  | none => .next s
  | some _ =>
    match prescaler s.cfg.pclk hz with
    | some p => .next (regWrite (.busPre p) s)
    | none => .refused .prescalerRange

/-- `set_source` on a handle the orchestrator holds (42_transfer_engine.md rule R122). -/
def setSourceOn (h : Handle) (a : Addr) (c : Word) (s : State) : State := regWrites (writesOn h (sourceWrites a c)) s

/-- `set_destination` on a handle the orchestrator holds (rule R123). -/
def setDestinationOn (h : Handle) (a : Addr) (c : Word) (s : State) : State := regWrites (writesOn h (destinationWrites a c)) s

/-- `set_control` on a handle the orchestrator holds (rule R124). -/
def setControlOn (h : Handle) (w : Word) (s : State) : State :=
  match h with
  | none => s
  | some _ => regWrite (.xferCon w) s

/-- `trigger` on a handle the orchestrator holds (rules R128 and R127; U8 on a channel already armed). -/
def triggerOn (h : Handle) (s : State) : Result :=
  match h with
  | none => .next s
  | some _ =>
    if s.xfer.trigOn then .refused .triggerArmed
    else .next (regWrite (.xferTrig (triggerWord s.xfer.con)) s)

/-- A driver operation of the Bus Channel on an operand handle: nothing on `none`, the selected channel's block on its own handle; no
other block is carried (10_state.md rule R39). -/
def onBus (h : Handle) (s : State) (f : Result) : Result :=
  match h with
  | none => .next s
  | some ch => if selectBus s.cfg s.cfg.busCh = some ch then f else .refused .channelNotCarried

/-- The same for the Transfer Channel (42_transfer_engine.md rule R121). -/
def onXfer (h : Handle) (s : State) (f : Result) : Result :=
  match h with
  | none => .next s
  | some ch => if selectXfer s.cfg.xferCh = some ch then f else .refused .channelNotCarried

/-- `TableRead(off)` (20_memory.md rule R41): `T[off]`; at or past `L` a free byte with `MALFORMED` set, or the stop a configuration
asks for. -/
def tableFetch (off : Nat) (s : State) : Except Fault (Byte × State) :=
  match s.cfg.table[off]? with
  | some b => .ok (b, s)
  | none =>
    if s.cfg.overrunStops then .error .tableOverrun
    else .ok (Config.freeByte s.drawn, setMalformed (draw s))

/-- `SUB` counts a completed action (10_state.md rule R11). -/
def countAction (s : State) : State := { s with sub := s.sub + 1#2 }

/-- The end of a step: `SUB <- 0`, `OST` the next step (43_orchestrator.md rule R151). -/
def enterStep (o : Ost) (s : State) : State := { s with sub := 0#2, ost := o }

/-- On entry to step 4: `TP <- 0; PH <- HEAD` (40_sequencer.md rule R89). -/
def startPlay (s : State) : State := { s with tp := 0, ph := .head }

/-- An orchestrator step runs only where `OST` names it (43_orchestrator.md rule R151). -/
def atStep (o : Ost) (s : State) (r : Result) : Result := if s.ost = o then r else .refused .stepOutOfOrder

/-- The output ports of the block (00_scope.md rule R6). -/
structure Ports where
  ost : BitVec 4
  malformed : Bool
  tblOff : Nat
  rstLine : Bool
  rstOe : Bool
  dcLine : Bool
  dcOe : Bool
  /-- The value of `DELAY_MS` while a delay is requested; its input is `State.delayDone`. -/
  delayMs : Option Nat
  deriving DecidableEq, Repr

/-- The number `ORCH.OST` shows (10_state.md rule R10). -/
def ostCode (o : Ost) : BitVec 4 :=
  match o with
  | .idle => 0#4
  | .pincfg => 1#4
  | .busup => 2#4
  | .resetPulse => 3#4
  | .play => 4#4
  | .window => 5#4
  | .dataMode => 6#4
  | .xsetup => 7#4
  | .trigger => 8#4
  | .handoff => 9#4

/-- What the ports show in a state. The spec says of `TBL_OFF` only that it is the offset of a `TableRead`; that it shows `SEQ.TP` in
every state, between reads too and during the second read of a header, is the model's choice (log entry 30). `DELAY_MS` shows the
requested milliseconds from the state in which the thread stands in a delay of step 3 until it goes on (log entry 21). -/
def portsOf (s : State) : Ports where
  ost := ostCode s.ost
  malformed := s.malformed
  tblOff := s.tp
  rstLine := s.gpio.rst
  rstOe := s.gpio.rstOe
  dcLine := s.gpio.dc
  dcOe := s.gpio.dcOe
  delayMs := delayRequested s

end Sys2Proof.Machine
end

