-- ==== Sys2Proof/Machine/Bus.lean ====
section
/-! DEFINITION. The Bus Channel Driver and the shifter's own steps (41_bus_channel.md). -/

namespace Sys2Proof.Machine

/-- `select` (rule R100): a handle or the not-found indicator; no register is read or written. -/
def execSelectBus (ch : Int) (s : State) : Result := .next (returning (.handle (selectBus s.cfg ch)) s)

/-- `configure` (rule R102). -/
def execConfigure (h : Handle) (m : Byte) (s : State) : Result := onBus h s (.next (configureOn h m s))

/-- `set_clock_rate` (rules R103 and R104). -/
def execSetClockRate (h : Handle) (hz : Nat) (s : State) : Result := onBus h s (setClockRateOn h hz s)

/-- The prescaler read-back (rule R112): 0 on handle `none`. -/
def execReadPrescaler (h : Handle) (s : State) : Result :=
  match h with
  | none => .next (returning (.byte 0#8) s)
  | some _ => onBus h s (.next (returning (.byte s.bus.pre) s))

/-- The final read of `transfer_byte`, made once the call's second wait has ended (rule R106). -/
def readReceived (s : State) : State := if s.bph = .idle then returning (.byte s.bus.dat) s else s

/-- `transfer_byte` (rule R106): 0x00 on handle `none` (rule R101). -/
def execTransferByte (h : Handle) (b : Byte) (s : State) : Result :=
  match h with
  | none => .next (returning (.byte 0#8) s)
  | some _ => onBus h s (.next (readReceived (transferOn h b s)))

/-- `write_only` (rule R107). -/
def execWriteOnly (h : Handle) (b : Byte) (s : State) : Result := onBus h s (.next (transferOn h b s))

/-- A step of the shifter (rule R108): `start` while ready, `complete` while busy (with nothing to complete BUS does not move), `re-arm`. -/
def execBusShift (k : ShiftStep) (s : State) : Result :=
  match k with
  | .start b => if statusReady s then .next (startShift b s) else .refused .writeWhileBusy
  | .complete => .next (if statusReady s then s else completeShift s)
  | .rearm => .next (rearmShift s)

end Sys2Proof.Machine
end

