-- ==== Sys2Proof/Machine/Orchestrator.lean ====
section
/-! DEFINITION. The Display Orchestrator's steps, GPIO Line Control and the host commands (43_orchestrator.md). Step 4 is in
Machine/Sequencer.lean. -/

namespace Sys2Proof.Machine

/-- INIT (rule R150); outside IDLE it is refused (rule R172). -/
def execInit (fb : Addr) (s : State) : Result :=
  if s.ost = .idle then
    .next (enterStep .pincfg { s with fbb := fb, bh := selectBus s.cfg s.cfg.busCh, xh := selectXfer s.cfg.xferCh })
  else .refused .reinit

/-- WRITE_BYTE (rule R171): one byte transfer, the command/data line not written. -/
def execWriteByte (harg : Word) (s : State) : Result :=
  if s.ost ≠ .handoff then .refused .writeBeforeInit
  else if s.xfer.trigOn then .refused .writeWhileStreaming
  else if s.bph ≠ .idle then .refused .transferInProgress
  else .next (transferOn s.bh (harg.setWidth 8) { s with byte := harg.setWidth 8 })

/-- `HCMD = 0b00` (30_encoding.md rule R68): no effect. -/
def execHcmdNone (s : State) : Result := .next s

/-- `HCMD = 0b11` (rule R68, U15): no effect. -/
def execHcmdReserved (s : State) : Result := .next s

/-- Step 1 (rule R154). -/
def execStep1PinConfig (s : State) : Result :=
  atStep .pincfg s <|
    match s.sub.toNat with
    | 0 => .next (countAction (gpioOutput .rst s))
    | 1 => .next (enterStep .busup (gpioOutput .dc s))
    | _ => .refused .subOutOfRange

/-- Step 2 (rule R155), one register write at a time (20_memory.md rule R46). -/
def execStep2BusBringup (s : State) : Result :=
  atStep .busup s <|
    match s.sub.toNat with
    | 0 => .next (oneWriteOf (writesOn s.bh (configureWrites (modeBits s.cfg))) countAction s)
    | 1 => andThen (setClockRateOn s.bh s.cfg.targetHz s) fun t => .next (enterStep .resetPulse t)
    | _ => .refused .subOutOfRange

/-- Step 3 (rule R157); its end is the entry to step 4 (40_sequencer.md rule R89). -/
def execStep3ResetPulse (s : State) : Result :=
  atStep .resetPulse s <|
    match s.sub.toNat with
    | 0 => .next (countAction (gpioSet .rst false s))
    | 1 => .next (delayThen s.cfg.tLowMs countAction s)
    | 2 => .next (countAction (gpioSet .rst true s))
    | _ => .next (delayThen s.cfg.tHighMs (fun t => startPlay (enterStep .play t)) s)

/-- Step 5 (rule R163): no action. -/
def execStep5Window (s : State) : Result := atStep .window s (.next (enterStep .dataMode s))

/-- Step 6 (rule R164). -/
def execStep6DataMode (s : State) : Result := atStep .dataMode s (.next (enterStep .xsetup (gpioSet .dc true s)))

/-- The free word of step 7 is used up where the destination's address is about to be written with the bus handle `none` (rule R174). -/
def drawDestination (s : State) : State := if s.xh.isSome ∧ s.bh = none ∧ s.midAction = false then draw s else s

/-- Step 7's second action: the destination, a free word where the bus handle is `none` (rules R165 and R174). -/
def setupDestination (s : State) : State :=
  oneWriteOf (writesOn s.xh (destinationWrites (destinationAddr s) dstcBits)) countAction (drawDestination s)

/-- Step 7's third action: the control word, refused where `COUNT` does not fit (rules R165, R167 and 42_transfer_engine.md rule R125). -/
def setupControl (s : State) : Result :=
  match s.xh with
  | none => .next s
  | some _ =>
    match ctlWord s.cfg with
    | some w => .next (setControlOn s.xh w s)
    | none => .refused .countRange

/-- Step 7 (rule R165): five register writes, one at a time (20_memory.md rule R46). -/
def execStep7SessionSetup (s : State) : Result :=
  atStep .xsetup s <|
    match s.sub.toNat with
    | 0 => .next (oneWriteOf (writesOn s.xh (sourceWrites s.fbb (srccBits s.cfg))) countAction s)
    | 1 => .next (setupDestination s)
    | 2 => andThen (setupControl s) fun t => .next (enterStep .trigger t)
    | _ => .refused .subOutOfRange

/-- Step 8 (rule R168); a valid transfer handle with no bus is refused (rule R174). -/
def execStep8Trigger (s : State) : Result :=
  atStep .trigger s <|
    if s.xh.isSome ∧ s.bh = none then .refused .streamWithoutBus
    else andThen (triggerOn s.xh s) fun t => .next (enterStep .handoff t)

/-- HANDOFF (rule R169): terminal, no step of its own. -/
def execHandoff (s : State) : Result := atStep .handoff s (.next s)

/-- `gpio_output(line)` (rule R152). -/
def execGpioOutput (line : Line) (s : State) : Result := .next (gpioOutput line s)

/-- `gpio_set(line, level)` (rule R152). -/
def execGpioSet (line : Line) (level : Bool) (s : State) : Result := .next (gpioSet line level s)

/-- `DelayMs(n)` (rule R158). -/
def execDelayMs (n : Nat) (s : State) : Result := .next (delayThen n id s)

end Sys2Proof.Machine
end

