-- ==== Sys2Proof/Machine/Sequencer.lean ====
section
/-! DEFINITION. The Command Sequencer (40_sequencer.md): `play`, `ENTRY`, `TableRead`, the two sinks, and the phase machine of rule R89
that step 4 runs. -/

namespace Sys2Proof.Machine

/-- The level of the command/data line a call is made with: low for a command, high for a parameter (43_orchestrator.md rules R153, R160, R161). -/
def sinkLevel (c : SinkCall) : Bool :=
  match c with
  | .command _ => false
  | .parameter _ => true

/-- The byte a call carries. -/
def sinkByte (c : SinkCall) : Byte :=
  match c with
  | .command b => b
  | .parameter b => b

/-- The orchestrator's binding of the sinks: the line, then a byte transfer on `ORCH.BH` (rules R160 and R161). -/
def orchestratorSink (c : SinkCall) (s : State) : State :=
  let t := gpioSet .dc (sinkLevel c) s
  transferOn t.bh (sinkByte c) t

/-- A call of a sink: the orchestrator's binding, or a recording callback that does nothing else (rule R85). -/
def callSink (k : Sinks) (c : SinkCall) (s : State) : State :=
  match k with
  | .orchestrator => orchestratorSink c s
  | .recording => { s with calls := s.calls ++ [c] }

/-- When a sink has returned (no byte transfer in progress), the phase is PARAM if parameters are left and HEAD if not (rule R89). -/
def afterSink (s : State) : State :=
  if s.bph = .idle then { s with ph := if s.rem = 0#8 then .head else .param } else s

/-- The registers once a header has been read: the tag is being sent, `len` parameters are left (rule R89). -/
def headerRead (tag len : Byte) (s : State) : State := { s with byte := tag, rem := len, tp := s.tp + 2, ph := .cmd }

/-- The registers once a parameter byte has been read (rule R89). -/
def parameterRead (b : Byte) (s : State) : State := { s with byte := b, tp := s.tp + 1, rem := s.rem - 1#8 }

/-- Both header bytes are read before the tag is sent (rule R89). -/
def readHeader (s : State) : Except Fault State :=
  match tableFetch s.tp s with
  | .error f => .error f
  | .ok (tag, t) =>
    match tableFetch (s.tp + 1) t with
    | .error f => .error f
    | .ok (len, u) => .ok (headerRead tag len u)

/-- The next parameter byte is read at `TP` (rule R89). -/
def readParameter (s : State) : Except Fault State :=
  match tableFetch s.tp s with
  | .error f => .error f
  | .ok (b, t) => .ok (parameterRead b t)

/-- The inner loop of rule R80 over parameters already decoded; it stops inside a byte transfer that does not end. -/
def sendParameters (ps : List Byte) (s : State) : State :=
  match ps with
  | [] => s
  | p :: rest =>
    if s.bph = .idle then sendParameters rest (afterSink (callSink .orchestrator (.parameter p) (parameterRead p s)))
    else s

/-- `ENTRY tag, len, params` at `SEQ.TP` (rule R81). -/
def execEntry (tag len : Byte) (params : List Byte) (s : State) : Result :=
  if s.bph = .idle then
    .next (sendParameters params (afterSink (callSink .orchestrator (.command tag) (headerRead tag len s))))
  else .refused .transferInProgress

/-- The inner loop of rule R80 over the table, at most as often as `REM` says. -/
def playParameters (n : Nat) (k : Sinks) (s : State) : Result :=
  match n with
  | 0 => .next s
  | m + 1 =>
    if s.bph = .idle then
      match readParameter s with
      | .error f => .fault f
      | .ok t => playParameters m k (afterSink (callSink k (.parameter t.byte) t))
    else .next s

/-- One iteration of the outer loop of rule R80, read from the table at `TP`. -/
def playEntry (k : Sinks) (s : State) : Result :=
  match readHeader s with
  | .error f => .fault f
  | .ok t => playParameters t.rem.toNat k (afterSink (callSink k (.command t.byte) t))

/-- The outer loop of rule R80; an entry takes two bytes or more, so `L` iterations are enough. -/
def playEntries (n : Nat) (k : Sinks) (s : State) : Result :=
  match n with
  | 0 => .next s
  | m + 1 =>
    if s.bph = .idle ∧ playOver s = false then andThen (playEntry k s) (playEntries m k)
    else .next s

/-- `play(T, L, write_command, write_parameter)` (rule R80). -/
def execPlay (k : Sinks) (s : State) : Result :=
  if s.bph = .idle then playEntries s.cfg.tableLen k (startPlay s) else .refused .transferInProgress

/-- Begin a sink of the orchestrator's binding: the line, then `BPH <- W1`; on handle `none` the sink returns at once (rules R89, R106, R101). -/
def beginSink (c : SinkCall) (s : State) : State :=
  let t := gpioSet .dc (sinkLevel c) s
  match t.bh with
  | some _ => { t with bph := .w1 }
  | none => afterSink t

/-- One transition of the thread inside step 4 (rule R89, with the waits of 41_bus_channel.md rule R106): where a wait's condition is
false the thread reads the ready bit again and nothing changes. -/
def playTransition (s : State) : Result :=
  match s.bph with
  | .w1 => .next (if statusReady s then { regWrite (.busDat s.byte) s with bph := .w2 } else s)
  | .w2 => .next (if statusReady s then afterSink { s with bph := .idle } else s)
  | .idle =>
    match s.ph with
    | .head =>
      if playOver s then .next (enterStep .window s)
      else
        match readHeader s with
        | .error f => .fault f
        | .ok t => .next (beginSink (.command t.byte) t)
    | .cmd => .next (afterSink s)
    | .param =>
      if s.rem = 0#8 then .next (afterSink s)
      else
        match readParameter s with
        | .error f => .fault f
        | .ok t => .next (beginSink (.parameter t.byte) t)

/-- STEP4, command playback: one transition of the phase machine (43_orchestrator.md rule R159). -/
def execStep4CommandPlayback (s : State) : Result := atStep .play s (playTransition s)

/-- `TableRead(off)` (20_memory.md rule R41). -/
def execTableRead (off : Nat) (s : State) : Result :=
  match tableFetch off s with
  | .error f => .fault f
  | .ok (b, t) => .next (returning (.byte b) t)

/-- A sink called by itself: no call overlaps another (41_bus_channel.md rule R106). -/
def callAlone (c : SinkCall) (s : State) : Result :=
  if s.bph = .idle then .next (orchestratorSink c s) else .refused .transferInProgress

/-- `write_command(b)` (43_orchestrator.md rule R160). -/
def execWriteCommand (b : Byte) (s : State) : Result := callAlone (.command b) s

/-- `write_parameter(b)` (rule R161). -/
def execWriteParameter (b : Byte) (s : State) : Result := callAlone (.parameter b) s

end Sys2Proof.Machine
end

