-- ==== Sys2Proof/Machine/System.lean ====
section
/-! DEFINITION. RESET (70_reset_and_hazards.md rule R220) and the moves from outside the block that run no instruction (rule R243,
43_orchestrator.md rule R158). -/

namespace Sys2Proof.Machine

/-- RESET: every element of the block at its reset value. What is not the block's stays: the parameters, system memory, and the
model's own schedule and count of free values (log entry 18). -/
def execReset (s : State) : Result :=
  .next { State.resetWith s.cfg with mem := s.mem, drawn := s.drawn, agenda := s.agenda }

/-- HOST writes a framebuffer byte: before INIT or after hand-off (rule R243). -/
def hostWriteByte (a : Addr) (b : Byte) (s : State) : Result :=
  if s.ost = .idle ∨ s.ost = .handoff then .next { s with mem := memWrite s.mem a b } else .refused .hostOutsideContract

/-- A move that runs no instruction: HOST's framebuffer write, ENV's answer to a delay. The others run one and are not taken here. -/
def outsideMove (m : Move) (s : State) : Result :=
  match m with
  | .hostWrite a b => hostWriteByte a b s
  | .env => .next (answerDelay s)
  | .orch => .next s
  | .bus => .next s
  | .xfer => .next s
  | .host _ _ => .next s
  | .reset => .next s

end Sys2Proof.Machine
end

