-- ==== Sys2Proof/Machine/Xfer.lean ====
section
/-! DEFINITION. The Transfer Engine Driver and the armed channel (42_transfer_engine.md). -/

namespace Sys2Proof.Machine

/-- `select` (rule R120): a handle or the not-found indicator; no register is read or written. -/
def execSelectXfer (ch : Int) (s : State) : Result := .next (returning (.handle (selectXfer ch)) s)

/-- `set_source` (rule R122). -/
def execSetSource (h : Handle) (a : Addr) (c : Word) (s : State) : Result := onXfer h s (.next (setSourceOn h a c s))

/-- `set_destination` (rule R123). -/
def execSetDestination (h : Handle) (a : Addr) (c : Word) (s : State) : Result := onXfer h s (.next (setDestinationOn h a c s))

/-- `set_control` (rule R124). -/
def execSetControl (h : Handle) (w : Word) (s : State) : Result := onXfer h s (.next (setControlOn h w s))

/-- `trigger` (rule R128). -/
def execTrigger (h : Handle) (s : State) : Result := onXfer h s (triggerOn h s)

/-- The working addresses after a unit, modulo `2^32` (rule R129). -/
def stepAddr (control : Word) (a : Addr) : Addr := if incFixed control then a else a + 1#32

/-- The channel after a unit has moved and before its count is looked at (rule R129). -/
def countUnit (x : XferBlock) : XferBlock :=
  { x with csrc := stepAddr x.srcc x.csrc, cdst := stepAddr x.dstc x.cdst, ccnt := x.ccnt - 1#20 }

/-- When the count has reached zero: reload, or disable the channel (rule R131). -/
def endOfPass (x : XferBlock) : XferBlock :=
  if x.ccnt = 0#20 then
    if ctlNoReload x.con then { x with trigOn := false } else loadWorking x
  else x

/-- The transfer of one unit: a byte of memory to the bus data register (rule R129). -/
def moveUnit (s : State) : State :=
  startShift (memRead s.mem s.xfer.csrc) { s with xfer := endOfPass (countUnit s.xfer) }

/-- The source stands at the last address and the pass goes on beyond it (93_implementation_defined.md U10). -/
def sourceAtEnd (x : XferBlock) : Bool := !incFixed x.srcc && (x.csrc == 0xFFFFFFFF#32) && (x.ccnt != 1#20)

/-- Why the spec defines no unit transfer for the session, where it does not: unit size (rule R126), a count of zero (rule R125), a
source or destination outside the one topology (rule R129), a source address that would pass `2^32 - 1` with units left (U10). -/
def unitRefusal (s : State) : Option Refusal :=
  if ctlUsize s.xfer.con ≠ 0#2 then some .unitSize
  else if s.xfer.ccnt = 0#20 then some .countRange
  else if locPeripheral s.xfer.srcc then some .sourceNotMemory
  else if locPeripheral s.xfer.dstc = false ∨ s.xfer.cdst ≠ s.cfg.busDatAddr then some .destinationNotBusData
  else if sourceAtEnd s.xfer then some .sourceWraps
  else none

/-- The step of an armed channel that has a requester and no software request: nothing while its enabling condition is false. -/
def execRequestedUnit (s : State) : Result :=
  if xferEnabled s then
    match unitRefusal s with
    | some r => .refused r
    | none => .next (moveUnit s)
  else .next s

/-- XFER's step (rules R129 to R133): a channel that is not armed has none. -/
def execXferUnit (s : State) : Result :=
  if s.xfer.trigOn = false then .next s
  else if s.xfer.trigSwreq then .refused .softwareTrigger
  else if selectBus s.cfg s.cfg.busCh = none then .refused .streamWithoutBus
  else if ctlHandshake s.xfer.con = false then .refused .demandMode
  else execRequestedUnit s

end Sys2Proof.Machine
end

