-- ==== Sys2Proof/Machine/Dispatch.lean ====
section
/-! DEFINITION. One arm per instruction: each calls its own meaning. -/

namespace Sys2Proof.Machine

def exec (i : Instr) (s : State) : Host.Outcome State Fault Refusal :=
  match i with
  | .entry tag len params => Sys2Proof.Machine.execEntry tag len params s
  | .init fb => Sys2Proof.Machine.execInit fb s
  | .writeByte harg => Sys2Proof.Machine.execWriteByte harg s
  | .hcmdNone => Sys2Proof.Machine.execHcmdNone s
  | .hcmdReserved => Sys2Proof.Machine.execHcmdReserved s
  | .step1PinConfig => Sys2Proof.Machine.execStep1PinConfig s
  | .step2BusBringup => Sys2Proof.Machine.execStep2BusBringup s
  | .step3ResetPulse => Sys2Proof.Machine.execStep3ResetPulse s
  | .step4CommandPlayback => Sys2Proof.Machine.execStep4CommandPlayback s
  | .step5Window => Sys2Proof.Machine.execStep5Window s
  | .step6DataMode => Sys2Proof.Machine.execStep6DataMode s
  | .step7SessionSetup => Sys2Proof.Machine.execStep7SessionSetup s
  | .step8Trigger => Sys2Proof.Machine.execStep8Trigger s
  | .handoff => Sys2Proof.Machine.execHandoff s
  | .play sinks => Sys2Proof.Machine.execPlay sinks s
  | .selectBus channel => Sys2Proof.Machine.execSelectBus channel s
  | .configure handle modeBits => Sys2Proof.Machine.execConfigure handle modeBits s
  | .setClockRate handle targetHz => Sys2Proof.Machine.execSetClockRate handle targetHz s
  | .readPrescaler handle => Sys2Proof.Machine.execReadPrescaler handle s
  | .transferByte handle outByte => Sys2Proof.Machine.execTransferByte handle outByte s
  | .writeOnly handle outByte => Sys2Proof.Machine.execWriteOnly handle outByte s
  | .busShift k => Sys2Proof.Machine.execBusShift k s
  | .selectXfer channel => Sys2Proof.Machine.execSelectXfer channel s
  | .setSource handle address controlBits => Sys2Proof.Machine.execSetSource handle address controlBits s
  | .setDestination handle address controlBits => Sys2Proof.Machine.execSetDestination handle address controlBits s
  | .setControl handle controlWord => Sys2Proof.Machine.execSetControl handle controlWord s
  | .trigger handle => Sys2Proof.Machine.execTrigger handle s
  | .xferUnit => Sys2Proof.Machine.execXferUnit s
  | .gpioOutput line => Sys2Proof.Machine.execGpioOutput line s
  | .gpioSet line level => Sys2Proof.Machine.execGpioSet line level s
  | .delayMs n => Sys2Proof.Machine.execDelayMs n s
  | .writeCommand b => Sys2Proof.Machine.execWriteCommand b s
  | .writeParameter b => Sys2Proof.Machine.execWriteParameter b s
  | .tableRead off => Sys2Proof.Machine.execTableRead off s
  | .reset => Sys2Proof.Machine.execReset s

end Sys2Proof.Machine
end

