-- ==== Sys2Proof/Machine/Fetch.lean ====
section
/-! DEFINITION. Which instruction runs next: the thread's own (by `OST`, or the table entry at `TP`), an agent's, or a host command. -/

namespace Sys2Proof.Machine

/-- The step `OST` names (10_state.md rule R10); in IDLE the block does nothing until INIT (70_reset_and_hazards.md rule R221). -/
def stepOf (o : Ost) : Instr :=
  match decodeOst (ostCode o) with
  | .ok i => i
  | .error _ => .hcmdNone

/-- The entry at `TP` where the sequencer stands at a head inside the table and the entry ends inside it; otherwise step 4's own
next transition (40_sequencer.md rules R81, R88, R89). -/
def fetchPlay (s : State) : Instr :=
  if s.bph = .idle ∧ s.ph = .head ∧ playOver s = false then
    match decodeEntry (s.cfg.table.drop s.tp) with
    | .ok (i, _) => i
    | .error _ => .step4CommandPlayback
  else .step4CommandPlayback

/-- The instruction the thread of control runs next: after hand-off only a WRITE_BYTE that has not returned (43_orchestrator.md rule R171). -/
def fetchThread (s : State) : Instr :=
  match s.ost with
  | .play => fetchPlay s
  | .handoff => if s.bph = .idle then .handoff else .writeOnly s.bh s.byte
  | o => stepOf o

/-- With no move scheduled, the one agent that can get on: the thread; else XFER on a software request (42_transfer_engine.md rule R130);
else BUS where it answers; else XFER on the bus's; else the thread polls, or nothing happens (log entry 1). -/
def fetchUnscheduled (s : State) : Instr :=
  if threadActive s && !threadWaits s then fetchThread s
  else if softwareRequest s then .xferUnit
  else if !statusReady s && s.cfg.busResponsive then .busShift .complete
  else if xferEnabled s then .xferUnit
  else if threadActive s then fetchThread s
  else .hcmdNone

/-- The next transition of ORCH/SEQ: the step `OST` names, or a WRITE_BYTE that has not returned. -/
def fetchOrch (s : State) : Instr :=
  if s.ost = .handoff ∧ s.bph ≠ .idle then .writeOnly s.bh s.byte else stepOf s.ost

/-- The instruction of a scheduled move; a framebuffer write and ENV's answer are none. -/
def fetchMove (m : Move) (s : State) : Option Instr :=
  match m with
  | .orch => some (fetchOrch s)
  | .bus => some (.busShift .complete)
  | .xfer => some .xferUnit
  | .host code harg => some (decodeHcmd code harg)
  | .env => none
  | .hostWrite _ _ => none
  | .reset => some .reset

/-- The step an `OST` code names, for placing it. -/
def ostOfCode (c : BitVec 4) : Ost :=
  match c.toNat with
  | 1 => .pincfg
  | 2 => .busup
  | 3 => .resetPulse
  | 4 => .play
  | 5 => .window
  | 6 => .dataMode
  | 7 => .xsetup
  | 8 => .trigger
  | 9 => .handoff
  | _ => .idle

/-- Place a code where the next step takes its instruction from: table bytes as the whole table with the sequencer at its head, a
host command on the port, a step code in `OST` (log entry 17). -/
def placeCode (c : Code) (s : State) : State :=
  match c with
  | .table bytes =>
    match splitEntry bytes with
    | .ok (tag, len, params, _) =>
      { s with cfg := { s.cfg with table := tag :: len :: params }, ost := .play, ph := .head, bph := .idle, tp := 0, agenda := [] }
    | .error _ => s
  | .hcmd code harg => { s with agenda := [.host code harg] }
  | .ost code => { s with ost := ostOfCode code, agenda := [.orch] }

end Sys2Proof.Machine
end

