-- ==== Sys2Proof/Machine/Step.lean ====
section
/-! DEFINITION. One step of the machine: the next scheduled move, or the instruction of the agent that can get on. -/

namespace Sys2Proof.Machine

/-- A scheduled move, taken off the agenda already. -/
def takeMove (m : Move) (s : State) : Host.Outcome State Fault Refusal :=
  match fetchMove m s with
  | some i => exec i s
  | none => outsideMove m s

/-- One step. -/
def step (s : State) : Host.Outcome State Fault Refusal :=
  match s.agenda with
  | [] => exec (fetchUnscheduled s) s
  | m :: rest => takeMove m { s with agenda := rest }

/-- The state with a row's word placed where the next step takes its instruction from (log entry 17). -/
def State.withFetchWord (s : State) (nbits w : Nat) : State := placeCode (codeOfTableWord nbits w) s

end Sys2Proof.Machine
end

