-- ==== Sys2Proof/Safety.lean ====
section
/-! DEFINITION. What claims are stated in: a legal configuration, the invariant of the machine's control state, the traces an entry
leaves, and what a run reaches. -/

namespace Sys2Proof.Machine

/-- The constraints of 00_scope.md rule R7 under which a bring-up meets no refusal, and a well-formed table. -/
def configLegal (c : Config) : Bool :=
  (selectBus c c.busCh).isSome && (selectXfer c.xferCh).isSome && (prescaler c.pclk c.targetHz).isSome && (ctlWord c).isSome &&
    tableWellFormed c.table && decide (c.tableLen + 257 < 2 ^ c.tpw)

/-- The highest `SUB` of each step (43_orchestrator.md rules R154 to R168). -/
def lastSub (o : Ost) : Nat :=
  match o with
  | .pincfg => 1
  | .busup => 1
  | .resetPulse => 3
  | .xsetup => 2
  | .idle => 0
  | .play => 0
  | .window => 0
  | .dataMode => 0
  | .trigger => 0
  | .handoff => 0

/-- What the control state of a run always satisfies. -/
structure ControlInv (s : State) : Prop where
  /-- `SUB` stays inside its step (10_state.md rule R11). -/
  subInStep : s.sub.toNat ≤ lastSub s.ost
  /-- The thread stands between two register writes only inside the first action of step 2 and the first two of step 7, on a valid
  handle (20_memory.md rule R46). -/
  betweenWrites : s.midAction = true →
    (s.ost = .busup ∧ s.sub = 0#2 ∧ s.bh.isSome) ∨ (s.ost = .xsetup ∧ (s.sub = 0#2 ∨ s.sub = 1#2) ∧ s.xh.isSome)
  /-- ENV answers only a delay the thread is in (43_orchestrator.md rule R158). -/
  answersDelay : s.delayDone = true → s.ost = .resetPulse ∧ (s.sub = 1#2 ∨ s.sub = 3#2)
  /-- The channel is not armed before hand-off (70_reset_and_hazards.md rule R228). -/
  notArmed : s.ost ≠ .handoff → s.xfer.trigOn = false ∧ s.xfer.trigSwreq = false
  /-- A byte transfer is in progress only inside play or inside a WRITE_BYTE, with a valid handle. -/
  transferOwned : s.bph ≠ .idle → s.bh.isSome ∧ ((s.ost = .play ∧ s.ph ≠ .head) ∨ s.ost = .handoff)
  /-- Before hand-off the bus is busy only inside the second wait (70_reset_and_hazards.md rule R229). -/
  busyInSecondWait : s.bus.ready = false → s.ost ≠ .handoff → s.bph = .w2
  /-- The handles are the ones INIT took (10_state.md rule R17). -/
  handlesIdle : s.ost = .idle → s.bh = none ∧ s.xh = none
  /-- The handles are the ones INIT took (10_state.md rule R17). -/
  handlesTaken : s.ost ≠ .idle → s.bh = selectBus s.cfg s.cfg.busCh ∧ s.xh = selectXfer s.cfg.xferCh
  /-- Both lines are outputs once step 1 is over (43_orchestrator.md rule R154). -/
  linesOut : 2 ≤ (ostCode s.ost).toNat → s.gpio.rstOe = true ∧ s.gpio.dcOe = true
  /-- The reset line is an output between the two actions of step 1 (rule R154). -/
  resetLineFirst : s.ost = .pincfg → s.sub ≠ 0#2 → s.gpio.rstOe = true
  /-- The panel is out of reset in the second wait of step 3 (rule R157). -/
  resetRaised : s.ost = .resetPulse → s.sub = 3#2 → s.gpio.rst = true
  /-- The panel is out of reset once step 3 is over (rule R157). -/
  resetReleased : 4 ≤ (ostCode s.ost).toNat → s.gpio.rst = true
  /-- The line is in data mode once step 6 is over (rule R164). -/
  dataMode : 7 ≤ (ostCode s.ost).toNat → s.gpio.dc = true
  /-- Outside play the sequencer stands at a head (40_sequencer.md rule R89). -/
  headOutsidePlay : s.ost ≠ .play → s.ph = .head
  /-- At a head no parameter is left (rule R89). -/
  headHasNone : s.ph = .head → s.rem = 0#8
  /-- The table pointer stays below its width for every table that meets the constraint on `TPW` (10_state.md rule R12). -/
  pointerInRange : s.tp + s.rem.toNat ≤ s.cfg.tableLen + 256

/-- The panel-visible events of one entry (43_orchestrator.md rule R159). -/
def entryEvents (e : Byte × List Byte) : List Event :=
  [.dc false, .tx false e.1] ++ e.2.flatMap fun p => [.dc true, .tx true p]

/-- The events of one entry where the bus handle is `none` (rule R174). -/
def entryLineEvents (e : Byte × List Byte) : List Event := .dc false :: e.2.map fun _ => .dc true

/-- The register writes of one entry (rule R170). -/
def entryWrites (e : Byte × List Byte) : List RegW := (e.1 :: e.2).map .busDat

/-- The sink calls of one entry (40_sequencer.md rule R83). -/
def entryCalls (e : Byte × List Byte) : List SinkCall := .command e.1 :: e.2.map .parameter

/-- The last byte sent for one entry. -/
def entryLast (e : Byte × List Byte) : Byte := e.2.getLastD e.1

/-- How many free values a wait for ready uses: one where the bus is busy. -/
def waitDraws (s : State) : Nat := if s.bus.ready then 0 else 1

/-- The mode the bus was configured with is one with which the silicon produces the request (41_bus_channel.md rule R110: a claim that the
stream makes progress names this as a premise). -/
def dirmodeSuits (s : State) : Bool := s.cfg.requestModes.contains (conDirmode s.bus.con)

/-- The session is complete and the channel may move a unit now (42_transfer_engine.md rules R125, R126, R129, R133, each in the
register's fields). -/
structure UnitReady (s : State) : Prop where
  /-- The channel is armed and has no software request pending. -/
  armed : s.xfer.trigOn = true ∧ s.xfer.trigSwreq = false
  /-- The selected Bus Channel is a supported one. -/
  busThere : 0 ≤ s.cfg.busCh ∧ s.cfg.busCh < s.cfg.nBus
  /-- Handshake mode, hardware trigger, the selected bus as requester, byte units. -/
  session : ctlHandshake s.xfer.con = true ∧ ctlHardware s.xfer.con = true ∧ ctlReqsrc s.xfer.con = s.cfg.reqsrcBus ∧
    ctlUsize s.xfer.con = 0#2
  /-- The bus requests. -/
  request : s.bus.ready = true
  /-- Units are left. -/
  unitsLeft : s.xfer.ccnt ≠ 0#20
  /-- From memory to the bus data register. -/
  topology : locPeripheral s.xfer.srcc = false ∧ locPeripheral s.xfer.dstc = true ∧ s.xfer.cdst = s.cfg.busDatAddr
  /-- The source does not pass the last address with units left (U10). -/
  insideMemory : sourceAtEnd s.xfer = false

/-- The bus after a byte has been written to `BUS.DAT` (41_bus_channel.md rule R108): the byte is in the shifter, and the register holds the
byte received before (decision D14). -/
def busStarted (b : Byte) (u : BusBlock) : BusBlock := { u with shift := b, ready := false }

/-- The bus after a byte has been sent and its shift is over, the received byte a free one (rules R108 and R111). -/
def busSent (b : Byte) (received : Byte) (u : BusBlock) : BusBlock := { u with dat := received, shift := b, ready := true }

/-- The parts of the state that an instruction's rule lets it write, or whose reading its rule names. -/
structure Footprint where
  /-- The Transfer Channel's block. -/
  xfer : Bool
  /-- `BUS.CON`. -/
  busCon : Bool
  /-- `BUS.PRE`. -/
  busPre : Bool
  /-- `BUS.STA.READY`. -/
  busReady : Bool
  /-- `BUS.DAT` and `BUS.SHIFT`. -/
  busData : Bool
  /-- `ORCH.BPH`, the byte transfer in progress. -/
  transfer : Bool
  /-- `SEQ.BYTE`. -/
  seqByte : Bool
  /-- Where the thread stands inside an action: between two register writes, or with its delay answered. -/
  action : Bool
  /-- The two lines. -/
  lines : Bool
  /-- The orchestrator's position (`OST`, `SUB`). -/
  position : Bool
  /-- The sequencer's registers (`TP`, `REM`, `PH`). -/
  sequencer : Bool
  /-- `MALFORMED`, which a table read past the end sets. -/
  malformed : Bool
  deriving DecidableEq, Repr

/-- None of the parts. -/
def Footprint.empty : Footprint := ⟨false, false, false, false, false, false, false, false, false, false, false, false⟩

/-- All of the parts. -/
def Footprint.all : Footprint := ⟨true, true, true, true, true, true, true, true, true, true, true, true⟩

/-- The footprint of each instruction, from the rule of its row in spec/opcode_table.json. -/
def footprint (i : Instr) : Footprint :=
  match i with
  | .entry _ _ _ => { Footprint.empty with
      lines := true, sequencer := true, busReady := true, busData := true, transfer := true, seqByte := true }
  | .init _ => { Footprint.empty with position := true }
  | .writeByte _ => { Footprint.empty with busReady := true, busData := true, transfer := true, seqByte := true }
  | .hcmdNone => Footprint.empty
  | .hcmdReserved => Footprint.empty
  | .step1PinConfig => { Footprint.empty with lines := true, position := true }
  | .step2BusBringup => { Footprint.empty with busCon := true, busPre := true, position := true, busReady := true, action := true }
  | .step3ResetPulse => { Footprint.empty with lines := true, position := true, sequencer := true, action := true }
  | .step4CommandPlayback => { Footprint.empty with
      lines := true, position := true, sequencer := true, malformed := true, busReady := true, busData := true, transfer := true, seqByte := true }
  | .step5Window => { Footprint.empty with position := true }
  | .step6DataMode => { Footprint.empty with lines := true, position := true }
  | .step7SessionSetup => { Footprint.empty with xfer := true, position := true, action := true }
  | .step8Trigger => { Footprint.empty with xfer := true, position := true }
  | .handoff => Footprint.empty
  | .play _ => { Footprint.empty with
      lines := true, sequencer := true, malformed := true, busReady := true, busData := true, transfer := true, seqByte := true }
  | .selectBus _ => Footprint.empty
  | .configure _ _ => { Footprint.empty with busCon := true, busReady := true }
  | .setClockRate _ _ => { Footprint.empty with busPre := true }
  | .readPrescaler _ => Footprint.empty
  | .transferByte _ _ => { Footprint.empty with busReady := true, busData := true, transfer := true }
  | .writeOnly _ _ => { Footprint.empty with busReady := true, busData := true, transfer := true }
  | .busShift _ => { Footprint.empty with busReady := true, busData := true }
  | .selectXfer _ => Footprint.empty
  | .setSource _ _ _ => { Footprint.empty with xfer := true }
  | .setDestination _ _ _ => { Footprint.empty with xfer := true }
  | .setControl _ _ => { Footprint.empty with xfer := true }
  | .trigger _ => { Footprint.empty with xfer := true }
  | .xferUnit => { Footprint.empty with xfer := true, busReady := true, busData := true }
  | .gpioOutput _ => { Footprint.empty with lines := true }
  | .gpioSet _ _ => { Footprint.empty with lines := true }
  | .delayMs _ => { Footprint.empty with action := true }
  | .writeCommand _ => { Footprint.empty with lines := true, busReady := true, busData := true, transfer := true }
  | .writeParameter _ => { Footprint.empty with lines := true, busReady := true, busData := true, transfer := true }
  | .tableRead _ => { Footprint.empty with malformed := true }
  | .reset => Footprint.all

/-- The schedule that runs one byte's transitions of rule R89: begin the sink, write the data register, let BUS complete, return. -/
def byteSchedule : List Move := [.orch, .orch, .bus, .orch]

/-- `t` is reached from `s` by steps of the machine, none of them a fault or a refusal. -/
inductive Reaches (s : State) : State → Prop where
  | refl : Reaches s s
  | tail {t u : State} : Reaches s t → step t = .next u → Reaches s u

/-- A run is safe so far where the table was never read past its end (60_exceptions.md rule R193). -/
def runClean (s : State) : Bool := !s.malformed

end Sys2Proof.Machine
end

