-- ==== Sys2Proof/Certificates/Slice0/Obligations.lean ====
section
/-! DEFINITION. The statements for the provers, from the numbered rules of spec/. A conclusion `exec i s = .next { s with … }` gives the
instruction's result, that it completes, and its frame: every element of the state that is not named is as it was, all of memory
among them. -/

open Sys2Proof Sys2Proof.Machine

/-! ### Reset (10_state.md rule R37, 70_reset_and_hazards.md rule R220) -/

/-- Rule R37: every element to which it gives a value has that value after reset, under every configuration; nothing is listed in
memory. The values are decision D23 of the spec. Elements it leaves unspecified (log entry 2) are not mentioned. -/
def Obligations.ResetLeavesTheStatedValues : Prop :=
  ∀ c : Config, ∃ s, s = State.resetWith c ∧ s.cfg = c ∧ s.ost = .idle ∧ s.sub = 0#2 ∧ s.bph = .idle ∧ s.ph = .head ∧ s.tp = 0 ∧
    s.rem = 0#8 ∧ s.bh = none ∧ s.xh = none ∧ s.malformed = false ∧ s.gpio.rstOe = false ∧ s.gpio.dcOe = false ∧
    s.bus.ready = true ∧ s.xfer.trigOn = false ∧ s.xfer.trigSwreq = false ∧ s.tr = [] ∧ s.rw = [] ∧
    (∀ a, memLookup s.mem a = none) ∧ memWf s.mem = true

/-- Rule R220: RESET puts the block into the state of rule R37 whatever it was doing, and leaves the parameters and system memory,
which are not the block's (log entry 18), as they are. -/
def Obligations.ResetPortRestoresTheBlock : Prop :=
  ∀ s : State, ∃ t, exec .reset s = .next t ∧ t.ost = .idle ∧ t.sub = 0#2 ∧ t.bph = .idle ∧ t.ph = .head ∧ t.tp = 0 ∧
    t.rem = 0#8 ∧ t.bh = none ∧ t.xh = none ∧ t.malformed = false ∧ t.gpio.rstOe = false ∧ t.gpio.dcOe = false ∧
    t.bus.ready = true ∧ t.xfer.trigOn = false ∧ t.xfer.trigSwreq = false ∧ t.tr = [] ∧ t.rw = [] ∧
    t.cfg = s.cfg ∧ t.mem = s.mem

/-! ### Host commands (43_orchestrator.md rules R150, R171, R172; 30_encoding.md rule R68) -/

/-- Rule R150: INIT in IDLE latches the base address and both handles and enters step 1. -/
def Obligations.InitLatchesAndEntersStepOne : Prop :=
  ∀ (s : State) (fb : Addr), s.ost = .idle →
    exec (.init fb) s = .next { s with
      fbb := fb
      bh := if 0 ≤ s.cfg.busCh ∧ s.cfg.busCh < s.cfg.nBus then some s.cfg.busCh.toNat else none
      xh := if 0 ≤ s.cfg.xferCh ∧ s.cfg.xferCh < 4 then some s.cfg.xferCh.toNat else none
      sub := 0#2
      ost := .pincfg }

/-- Rule R172 (decision D24): INIT outside IDLE is refused, and so is WRITE_BYTE before hand-off, while streaming (rule R171, decision
D35), and while an earlier one has not returned (log entry 11). -/
def Obligations.HostCommandsRefusedOutsideTheirPhase : Prop :=
  ∀ (s : State) (fb : Addr) (harg : Word),
    (s.ost ≠ .idle → exec (.init fb) s = .refused .reinit) ∧
    (s.ost ≠ .handoff → exec (.writeByte harg) s = .refused .writeBeforeInit) ∧
    (s.ost = .handoff → s.xfer.trigOn = true → exec (.writeByte harg) s = .refused .writeWhileStreaming) ∧
    (s.ost = .handoff → s.xfer.trigOn = false → s.bph ≠ .idle → exec (.writeByte harg) s = .refused .transferInProgress)

/-- Rule R68 and U15: the codes 0 and 3 have no effect in any state. -/
def Obligations.IdleHostCodesHaveNoEffect : Prop :=
  ∀ s : State, exec .hcmdNone s = .next s ∧ exec .hcmdReserved s = .next s

/-- Rule R171: WRITE_BYTE after hand-off with the channel not armed sends `HARG[7:0]` at the level the line has, in one byte transfer
(under a responsive bus, rule R109); on handle `none` it only loads `SEQ.BYTE`. -/
def Obligations.WriteByteSendsOneByte : Prop :=
  ∀ (s : State) (harg : Word) (ch : Nat), s.ost = .handoff → s.xfer.trigOn = false → s.bph = .idle →
    (s.bh = some ch → s.cfg.busResponsive = true →
      exec (.writeByte harg) s = .next { s with
        byte := harg.extractLsb' 0 8
        bus := busSent (harg.extractLsb' 0 8) (Config.freeByte (s.drawn + waitDraws s)) s.bus
        tr := s.tr ++ [.tx s.gpio.dc (harg.extractLsb' 0 8)]
        rw := s.rw ++ [.busDat (harg.extractLsb' 0 8)]
        drawn := s.drawn + waitDraws s + 1 }) ∧
    (s.bh = none → exec (.writeByte harg) s = .next { s with byte := harg.extractLsb' 0 8 })

/-! ### The orchestrator's steps (43_orchestrator.md rules R154 to R169) -/

/-- Rule R154: step 1 makes the reset line and then the command/data line outputs (the order is decision D9). -/
def Obligations.PinConfigDrivesBothLines : Prop :=
  ∀ s : State, s.ost = .pincfg →
    (s.sub = 0#2 → exec .step1PinConfig s = .next { s with
      gpio := { s.gpio with rstOe := true }, tr := s.tr ++ [.dir .rst], sub := 1#2 }) ∧
    (s.sub = 1#2 → exec .step1PinConfig s = .next { s with
      gpio := { s.gpio with dcOe := true }, tr := s.tr ++ [.dir .dc], sub := 0#2, ost := .busup })

/-- Rule R155 with rules R102, R103, R101 and 20_memory.md rule R46: step 2 writes the control register zero, then the mode, then the
prescaler, one write a step, so that the mode is seen as zero between the first two (log entry 31); on handle `none` it writes
nothing. -/
def Obligations.BusBringupConfiguresThenSetsRate : Prop :=
  ∀ (s : State) (ch : Nat), s.ost = .busup →
    (s.sub = 0#2 → s.bh = some ch → s.midAction = false → exec .step2BusBringup s = .next { s with
      bus := { s.bus with con := 0#8, ready := true }, rw := s.rw ++ [.busCon 0#8], midAction := true }) ∧
    (s.sub = 0#2 → s.bh = some ch → s.midAction = true → exec .step2BusBringup s = .next { s with
      bus := { s.bus with con := modeBits s.cfg }, rw := s.rw ++ [.busCon (modeBits s.cfg)], midAction := false, sub := 1#2 }) ∧
    (s.sub = 1#2 → s.bh = some ch → 1 ≤ s.cfg.pclk / 2 / s.cfg.targetHz → s.cfg.pclk / 2 / s.cfg.targetHz ≤ 256 →
      exec .step2BusBringup s = .next { s with
        bus := { s.bus with pre := BitVec.ofNat 8 (s.cfg.pclk / 2 / s.cfg.targetHz - 1) }
        rw := s.rw ++ [.busPre (BitVec.ofNat 8 (s.cfg.pclk / 2 / s.cfg.targetHz - 1))], sub := 0#2, ost := .resetPulse }) ∧
    (s.sub = 0#2 → s.bh = none → exec .step2BusBringup s = .next { s with sub := 1#2 }) ∧
    (s.sub = 1#2 → s.bh = none → exec .step2BusBringup s = .next { s with sub := 0#2, ost := .resetPulse })

/-- Rule R157: step 3 drives the reset line low, waits, drives it high, waits, and enters step 4 with the sequencer at the table's head
(40_sequencer.md rule R89); a delay that ENV has not answered, where it does not answer every one in time, holds the thread (rule
R158, log entry 21). While the thread stands in a delay the port `DELAY_MS` (00_scope.md rule R6) shows the milliseconds asked for, and
in no other state of the step. -/
def Obligations.ResetPulseIsLowWaitHighWait : Prop :=
  ∀ s : State, s.ost = .resetPulse →
    (s.sub = 0#2 → exec .step3ResetPulse s = .next { s with
      gpio := { s.gpio with rst := false }, tr := s.tr ++ [.rst false], sub := 1#2 }) ∧
    (s.sub = 1#2 → (s.cfg.delaysEnd = true ∨ s.delayDone = true) → exec .step3ResetPulse s = .next { s with
      tr := s.tr ++ [.wait s.cfg.tLowMs], delayDone := false, sub := 2#2 }) ∧
    (s.sub = 2#2 → exec .step3ResetPulse s = .next { s with
      gpio := { s.gpio with rst := true }, tr := s.tr ++ [.rst true], sub := 3#2 }) ∧
    (s.sub = 3#2 → (s.cfg.delaysEnd = true ∨ s.delayDone = true) → exec .step3ResetPulse s = .next { s with
      tr := s.tr ++ [.wait s.cfg.tHighMs], delayDone := false, sub := 0#2, ost := .play, tp := 0, ph := .head }) ∧
    ((s.sub = 1#2 ∨ s.sub = 3#2) → s.cfg.delaysEnd = false → s.delayDone = false → exec .step3ResetPulse s = .next s) ∧
    (portsOf s).delayMs = (if s.sub = 1#2 then some s.cfg.tLowMs else if s.sub = 3#2 then some s.cfg.tHighMs else none)

/-- Rules R163 and R164: step 5 has no action; step 6 drives the command/data line high whatever it was. -/
def Obligations.WindowPassesAndDataModeRaisesTheLine : Prop :=
  ∀ s : State,
    (s.ost = .window → exec .step5Window s = .next { s with sub := 0#2, ost := .dataMode }) ∧
    (s.ost = .dataMode → exec .step6DataMode s = .next { s with
      gpio := { s.gpio with dc := true }, tr := s.tr ++ [.dc true], sub := 0#2, ost := .xsetup })

/-- Rule R165 with rules R71, R72, R167, R174 and 20_memory.md rule R46: step 7 programs source, destination and control on a valid transfer
handle in five register writes, one a step (log entry 31), the destination a free word where the bus handle is `none`. -/
def Obligations.SessionSetupProgramsTheChannel : Prop :=
  ∀ (s : State) (xch bch : Nat) (w : Word), s.ost = .xsetup → s.xh = some xch →
    (s.sub = 0#2 → s.midAction = false → exec .step7SessionSetup s = .next { s with
      xfer := { s.xfer with src := s.fbb }, rw := s.rw ++ [.xferSrc s.fbb], midAction := true }) ∧
    (s.sub = 0#2 → s.midAction = true → exec .step7SessionSetup s = .next { s with
      xfer := { s.xfer with srcc := srccBits s.cfg }, rw := s.rw ++ [.xferSrcc (srccBits s.cfg)], midAction := false, sub := 1#2 }) ∧
    (s.sub = 1#2 → s.bh = some bch → s.midAction = false → exec .step7SessionSetup s = .next { s with
      xfer := { s.xfer with dst := s.cfg.busDatAddr }, rw := s.rw ++ [.xferDst s.cfg.busDatAddr], midAction := true }) ∧
    (s.sub = 1#2 → s.bh = none → s.midAction = false → exec .step7SessionSetup s = .next { s with
      xfer := { s.xfer with dst := Config.freeWord s.drawn }, rw := s.rw ++ [.xferDst (Config.freeWord s.drawn)]
      midAction := true, drawn := s.drawn + 1 }) ∧
    (s.sub = 1#2 → s.midAction = true → exec .step7SessionSetup s = .next { s with
      xfer := { s.xfer with dstc := 3#32 }, rw := s.rw ++ [.xferDstc 3#32], midAction := false, sub := 2#2 }) ∧
    (s.sub = 2#2 → ctlWord s.cfg = some w → exec .step7SessionSetup s = .next { s with
      xfer := { s.xfer with con := w }, rw := s.rw ++ [.xferCon w], sub := 0#2, ost := .trigger })

/-- Rule R174 with rule R121: with transfer handle `none` steps 7 and 8 write nothing and the sequence still reaches hand-off. -/
def Obligations.NoTransferHandleSkipsTheSession : Prop :=
  ∀ s : State, s.xh = none →
    (s.ost = .xsetup → s.sub = 0#2 → exec .step7SessionSetup s = .next { s with sub := 1#2 }) ∧
    (s.ost = .xsetup → s.sub = 1#2 → exec .step7SessionSetup s = .next { s with sub := 2#2 }) ∧
    (s.ost = .xsetup → s.sub = 2#2 → exec .step7SessionSetup s = .next { s with sub := 0#2, ost := .trigger }) ∧
    (s.ost = .trigger → exec .step8Trigger s = .next { s with sub := 0#2, ost := .handoff })

/-- Rules R168, R128 and R127: step 8 arms the channel, loads its working registers and hands off; rule R169: hand-off has no step. -/
def Obligations.TriggerArmsAndHandsOff : Prop :=
  ∀ (s : State) (xch bch : Nat),
    (s.ost = .trigger → s.xh = some xch → s.bh = some bch → s.xfer.trigOn = false →
      exec .step8Trigger s = .next { s with
        xfer := { s.xfer with
          trigOn := true, trigSwreq := !ctlHardware s.xfer.con
          csrc := s.xfer.src, cdst := s.xfer.dst, ccnt := s.xfer.con.extractLsb' 0 20 }
        rw := s.rw ++ [.xferTrig (if s.xfer.con.getLsbD 23 then 2#32 else 3#32)], sub := 0#2, ost := .handoff }) ∧
    (s.ost = .handoff → exec .handoff s = .next s)

/-- The refusals of bring-up: rule R104 (decision D13) in step 2, rule R125 (decision D34) in step 7, rule R174 and U22 in step 8, a
channel already armed (U8), an orchestrator step asked for while `OST` names another, and a `SUB` the step does not have (rules R151
and R11, log entry 11). -/
def Obligations.BringUpRefusals : Prop :=
  ∀ (s : State) (ch xch : Nat),
    (s.ost = .busup → s.sub = 1#2 → s.bh = some ch →
      (s.cfg.pclk / 2 / s.cfg.targetHz = 0 ∨ 256 < s.cfg.pclk / 2 / s.cfg.targetHz) →
      exec .step2BusBringup s = .refused .prescalerRange) ∧
    (s.ost = .xsetup → s.sub = 2#2 → s.xh = some xch → (s.cfg.cols * s.cfg.rows * s.cfg.bpp = 0 ∨ 2 ^ 20 ≤ s.cfg.cols * s.cfg.rows * s.cfg.bpp) →
      exec .step7SessionSetup s = .refused .countRange) ∧
    (s.ost = .trigger → s.xh = some xch → s.bh = none → exec .step8Trigger s = .refused .streamWithoutBus) ∧
    (s.ost = .trigger → s.xh = some xch → s.bh = some ch → s.xfer.trigOn = true → exec .step8Trigger s = .refused .triggerArmed) ∧
    (s.ost = .pincfg → 1 < s.sub.toNat → exec .step1PinConfig s = .refused .subOutOfRange) ∧
    (s.ost = .busup → 1 < s.sub.toNat → exec .step2BusBringup s = .refused .subOutOfRange) ∧
    (s.ost = .xsetup → 2 < s.sub.toNat → exec .step7SessionSetup s = .refused .subOutOfRange) ∧
    (∀ o : Ost, o ≠ .idle → s.ost ≠ o → exec (stepOf o) s = .refused .stepOutOfOrder)

/-- 30_encoding.md rules R70, R71 and R72 (packing: decision D5): the orchestrator's operand words, as those rules write them. -/
def Obligations.OperandWordsFollowTheirFormulas : Prop :=
  ∀ c : Config,
    modeBits c = (0x18#8 ||| (c.dirmode.setWidth 8 <<< 5) ||| (c.cpol.setWidth 8 <<< 2) ||| (c.cpha.setWidth 8 <<< 1)) ∧
    srccBits c = (match c.srcInc with | .increment => 0#32 | .fixed => 1#32) ∧ dstcBits = 3#32 ∧
    (1 ≤ c.cols * c.rows * c.bpp → c.cols * c.rows * c.bpp < 2 ^ 20 →
      ctlWord c = some (0x80800000#32 ||| (c.reqsrcBus.setWidth 32 <<< 24) ||| ((if c.reload then 0#32 else 1#32) <<< 22) |||
        BitVec.ofNat 32 (c.cols * c.rows * c.bpp))) ∧
    ((c.cols * c.rows * c.bpp = 0 ∨ 2 ^ 20 ≤ c.cols * c.rows * c.bpp) → ctlWord c = none)

/-! ### GPIO and delay (43_orchestrator.md rules R152, R158) -/

/-- Rule R152, whole: each operation drives its one line at once, emits its one event, and cannot fail. -/
def Obligations.GpioOperationsDriveTheirLine : Prop :=
  ∀ (s : State) (level : Bool),
    exec (.gpioOutput .rst) s = .next { s with gpio := { s.gpio with rstOe := true }, tr := s.tr ++ [.dir .rst] } ∧
    exec (.gpioOutput .dc) s = .next { s with gpio := { s.gpio with dcOe := true }, tr := s.tr ++ [.dir .dc] } ∧
    exec (.gpioSet .rst level) s = .next { s with gpio := { s.gpio with rst := level }, tr := s.tr ++ [.rst level] } ∧
    exec (.gpioSet .dc level) s = .next { s with gpio := { s.gpio with dc := level }, tr := s.tr ++ [.dc level] }

/-- Rule R158 (decision D25): a delay that is over appends `Wait(n)` and uses up ENV's answer, and changes nothing else; one that is not over
changes nothing (U20, log entry 21). -/
def Obligations.DelayOnlyRecordsTheWait : Prop :=
  ∀ (s : State) (n : Nat),
    ((s.cfg.delaysEnd = true ∨ s.delayDone = true) →
      exec (.delayMs n) s = .next { s with tr := s.tr ++ [.wait n], delayDone := false }) ∧
    (s.cfg.delaysEnd = false → s.delayDone = false → exec (.delayMs n) s = .next s)

/-! ### The Bus Channel (41_bus_channel.md) -/

/-- Rules R100 and R120 (index intervals: decision D3): selection is a range check that returns a handle or `none` and touches nothing. -/
def Obligations.SelectionIsARangeCheck : Prop :=
  ∀ (s : State) (ch : Int),
    exec (.selectBus ch) s = .next { s with
      result := .handle (if 0 ≤ ch ∧ ch < s.cfg.nBus then some ch.toNat else none) } ∧
    exec (.selectXfer ch) s = .next { s with result := .handle (if 0 ≤ ch ∧ ch < 4 then some ch.toNat else none) }

/-- Rule R101 (the returned 0x00: decision D43): every bus operation on handle `none` does nothing and returns at once. -/
def Obligations.BusOperationsOnNoneAreNoOps : Prop :=
  ∀ (s : State) (m b : Byte) (hz : Nat),
    exec (.configure none m) s = .next s ∧ exec (.setClockRate none hz) s = .next s ∧ exec (.writeOnly none b) s = .next s ∧
    exec (.transferByte none b) s = .next { s with result := .byte 0#8 } ∧
    exec (.readPrescaler none) s = .next { s with result := .byte 0#8 }

/-- Rule R102: exactly two writes, zero and then the mode, whatever the register held and whatever the mode; ready is set; nothing
is waited for; on `none` nothing; and the worked example's fields. The operation asked for by itself runs whole (log entry 31). -/
def Obligations.ConfigureWritesZeroThenMode : Prop :=
  (∀ (s : State) (ch : Nat) (m : Byte), selectBus s.cfg s.cfg.busCh = some ch →
    exec (.configure (some ch) m) s = .next { s with
      bus := { s.bus with con := m, ready := true }, rw := s.rw ++ [.busCon 0#8, .busCon m] }) ∧
  (∀ (s : State) (m : Byte), exec (.configure none m) s = .next s) ∧
  (conMaster 0x18#8 = true ∧ conClken 0x18#8 = true ∧ conCpol 0x18#8 = false ∧ conCpha 0x18#8 = false ∧ conDirmode 0x18#8 = 0#2)

/-- Rule R103, whole, on the quotients rule R104 allows: one write of `floor(floor(PCLK / 2) / hz) - 1` to the prescaler, the control
register and the shifter untouched; on `none` nothing; the quotient's second form; the source's example. -/
def Obligations.SetClockRateWritesTheQuotientLessOne : Prop :=
  (∀ (s : State) (ch hz : Nat), selectBus s.cfg s.cfg.busCh = some ch → 0 < hz → 1 ≤ s.cfg.pclk / 2 / hz → s.cfg.pclk / 2 / hz ≤ 256 →
    exec (.setClockRate (some ch) hz) s = .next { s with
      bus := { s.bus with pre := BitVec.ofNat 8 (s.cfg.pclk / 2 / hz - 1) }
      rw := s.rw ++ [.busPre (BitVec.ofNat 8 (s.cfg.pclk / 2 / hz - 1))] } ∧
    s.cfg.pclk / 2 / hz = s.cfg.pclk / (2 * hz)) ∧
  (∀ (s : State) (hz : Nat), exec (.setClockRate none hz) s = .next s) ∧
  prescaler 50000000 25000000 = some 0#8

/-- Rules R104 (decision D13) and R105: outside the range the operation is refused; inside it the register's value plus one is the
quotient, and the clock it gives is not lower than the request. -/
def Obligations.PrescalerRangeAndRate : Prop :=
  ∀ (s : State) (ch hz : Nat), selectBus s.cfg s.cfg.busCh = some ch →
    ((hz = 0 ∨ s.cfg.pclk / 2 < hz ∨ 256 < s.cfg.pclk / 2 / hz) → exec (.setClockRate (some ch) hz) s = .refused .prescalerRange) ∧
    (∀ t, exec (.setClockRate (some ch) hz) s = .next t →
      t.bus.pre.toNat + 1 = s.cfg.pclk / 2 / hz ∧ hz * (2 * (t.bus.pre.toNat + 1)) ≤ s.cfg.pclk)

/-- Rule R112 (decision D37): the read-back returns the prescaler register, which is what set_clock_rate last wrote. -/
def Obligations.PrescalerReadsBack : Prop :=
  ∀ (s : State) (ch hz : Nat), selectBus s.cfg s.cfg.busCh = some ch →
    exec (.readPrescaler (some ch)) s = .next { s with result := .byte s.bus.pre } ∧
    (∀ t, exec (.setClockRate (some ch) hz) s = .next t →
      ∃ u, exec (.readPrescaler (some ch)) t = .next u ∧ u.result = .byte (BitVec.ofNat 8 (s.cfg.pclk / 2 / hz - 1)))

/-- Rules R106, R107 and R108 under a responsive bus (rule R109): a byte transfer sends the byte once, at the level the line has, and
returns with the bus idle; `transfer_byte` returns the byte shifted in, which is a free value (rule R111). -/
def Obligations.ByteTransferSendsAndReturns : Prop :=
  ∀ (s : State) (ch : Nat) (b : Byte), selectBus s.cfg s.cfg.busCh = some ch → s.bph = .idle → s.cfg.busResponsive = true →
    exec (.writeOnly (some ch) b) s = .next { s with
      bus := busSent b (Config.freeByte (s.drawn + waitDraws s)) s.bus
      tr := s.tr ++ [.tx s.gpio.dc b], rw := s.rw ++ [.busDat b], drawn := s.drawn + waitDraws s + 1 } ∧
    exec (.transferByte (some ch) b) s = .next { s with
      bus := busSent b (Config.freeByte (s.drawn + waitDraws s)) s.bus
      tr := s.tr ++ [.tx s.gpio.dc b], rw := s.rw ++ [.busDat b], drawn := s.drawn + waitDraws s + 1
      result := .byte (Config.freeByte (s.drawn + waitDraws s)) }

/-- Rules R106, R107 and R192, wait by wait, on a bus that answers only where the schedule says so: a transfer begun on an idle bus writes
the byte and stays in its second wait, one begun on a busy bus stays in its first; once the bus is ready, the first wait goes on to
the second, and the second returns the byte in `BUS.DAT` (rule R23, decision D14). That a blocking operation ends its step in a wait
is the model's choice (log entry 8), and so is what a call asked for in a wait does, where the rule says only that calls never
overlap: at W1 it writes its own operand `b`, whatever byte the waiting call had; at W2 it writes nothing and returns (log entry 19). -/
def Obligations.TransferStaysInAWaitUntilReady : Prop :=
  ∀ (s : State) (ch : Nat) (b : Byte), selectBus s.cfg s.cfg.busCh = some ch → s.cfg.busResponsive = false →
    (s.bph = .idle → s.bus.ready = true → ∃ t, exec (.writeOnly (some ch) b) s = .next t ∧
      t = { s with bus := busStarted b s.bus, tr := s.tr ++ [.tx s.gpio.dc b], rw := s.rw ++ [.busDat b], bph := .w2 } ∧
      exec (.writeOnly (some ch) b) t = .next t ∧ exec (.transferByte (some ch) b) t = .next t) ∧
    (s.bph = .idle → s.bus.ready = false → ∃ t, exec (.writeOnly (some ch) b) s = .next t ∧ t = { s with bph := .w1 } ∧
      exec (.writeOnly (some ch) b) t = .next t ∧ exec (.transferByte (some ch) b) t = .next t) ∧
    (s.bph = .w1 → s.bus.ready = true → exec (.writeOnly (some ch) b) s = .next { s with
      bus := busStarted b s.bus, tr := s.tr ++ [.tx s.gpio.dc b], rw := s.rw ++ [.busDat b], bph := .w2 }) ∧
    (s.bph = .w2 → s.bus.ready = true →
      exec (.writeOnly (some ch) b) s = .next { s with bph := .idle } ∧
      exec (.transferByte (some ch) b) s = .next { s with bph := .idle, result := .byte s.bus.dat })

/-- A handle of a channel the block does not select is refused by every driver operation (rule R39, U26, log entry 9), and ENTRY, play,
write_command and write_parameter are refused while a byte transfer is in progress (rule R106, log entry 11); write_only and
transfer_byte go on with it instead (log entry 19), and WRITE_BYTE is in `HostCommandsRefusedOutsideTheirPhase`. -/
def Obligations.OtherChannelsAndOverlapsAreRefused : Prop :=
  ∀ (s : State) (ch hz : Nat) (b tag len : Byte) (a : Addr) (c : Word) (ps : List Byte) (k : Sinks),
    (selectBus s.cfg s.cfg.busCh ≠ some ch →
      exec (.configure (some ch) b) s = .refused .channelNotCarried ∧ exec (.setClockRate (some ch) hz) s = .refused .channelNotCarried ∧
      exec (.readPrescaler (some ch)) s = .refused .channelNotCarried ∧
      exec (.transferByte (some ch) b) s = .refused .channelNotCarried ∧ exec (.writeOnly (some ch) b) s = .refused .channelNotCarried) ∧
    (selectXfer s.cfg.xferCh ≠ some ch →
      exec (.setSource (some ch) a c) s = .refused .channelNotCarried ∧
      exec (.setDestination (some ch) a c) s = .refused .channelNotCarried ∧
      exec (.setControl (some ch) c) s = .refused .channelNotCarried ∧ exec (.trigger (some ch)) s = .refused .channelNotCarried) ∧
    (s.bph ≠ .idle →
      exec (.entry tag len ps) s = .refused .transferInProgress ∧ exec (.play k) s = .refused .transferInProgress ∧
      exec (.writeCommand b) s = .refused .transferInProgress ∧ exec (.writeParameter b) s = .refused .transferInProgress)

/-- Rule R108: start, complete and re-arm; a start on a busy bus is refused (U6, decision D16); only a completed shift changes `BUS.DAT`
(rule R23, decision D14). The model's choice: complete asked for on an idle bus changes nothing (log entry 25), and a re-arm leaves
`BUS.SHIFT` as it was (log entry 29). -/
def Obligations.ShifterStartsCompletesAndRearms : Prop :=
  ∀ (s : State) (b : Byte),
    (s.bus.ready = true → exec (.busShift (.start b)) s = .next { s with
      bus := busStarted b s.bus, tr := s.tr ++ [.tx s.gpio.dc b] }) ∧
    (s.bus.ready = false → exec (.busShift (.start b)) s = .refused .writeWhileBusy) ∧
    (s.bus.ready = false → exec (.busShift .complete) s = .next { s with
      bus := { s.bus with dat := Config.freeByte s.drawn, ready := true }, drawn := s.drawn + 1 }) ∧
    (s.bus.ready = true → exec (.busShift .complete) s = .next s) ∧
    exec (.busShift .rearm) s = .next { s with bus := { s.bus with ready := true } }

/-! ### The Transfer Channel (42_transfer_engine.md) -/

/-- Rule R121, whole: on handle `none` each of the four operations reads nothing, writes nothing and returns at once; nothing is recorded
and the channel is not armed. -/
def Obligations.TransferOperationsOnNoneAreNoOps : Prop :=
  ∀ (s : State) (a : Addr) (c w : Word),
    exec (.setSource none a c) s = .next s ∧ exec (.setDestination none a c) s = .next s ∧
    exec (.setControl none w) s = .next s ∧ exec (.trigger none) s = .next s

/-- Rules R122 and R123 (address first: decision D9): two writes each; the working registers and the trigger are not touched; the worked
example's fields. Each operation asked for by itself runs whole (log entry 31). -/
def Obligations.SourceAndDestinationTakeTwoWrites : Prop :=
  (∀ (s : State) (ch : Nat) (a : Addr) (c : Word), selectXfer s.cfg.xferCh = some ch →
    exec (.setSource (some ch) a c) s = .next { s with
      xfer := { s.xfer with src := a, srcc := c }, rw := s.rw ++ [.xferSrc a, .xferSrcc c] } ∧
    exec (.setDestination (some ch) a c) s = .next { s with
      xfer := { s.xfer with dst := a, dstc := c }, rw := s.rw ++ [.xferDst a, .xferDstc c] }) ∧
  locPeripheral 3#32 = true ∧ incFixed 3#32 = true ∧ locPeripheral 0#32 = false ∧ incFixed 0#32 = false

/-- Rule R124, whole: one write; it does not arm the channel; on `none` nothing; the worked example's fields. -/
def Obligations.SetControlIsOneWrite : Prop :=
  (∀ (s : State) (ch : Nat) (w : Word), selectXfer s.cfg.xferCh = some ch →
    exec (.setControl (some ch) w) s = .next { s with xfer := { s.xfer with con := w }, rw := s.rw ++ [.xferCon w] }) ∧
  (∀ (s : State) (w : Word), exec (.setControl none w) s = .next s) ∧
  (ctlHandshake 0x8381C200#32 = true ∧ ctlReqsrc 0x8381C200#32 = 3#3 ∧ ctlHardware 0x8381C200#32 = true ∧
    ctlNoReload 0x8381C200#32 = false ∧ ctlUsize 0x8381C200#32 = 0#2 ∧ ctlCount 0x8381C200#32 = 115200#20)

/-- Rules R128 (decision D17), R127 (decision D18) and R73: trigger on a channel that is not armed writes 0x2 for a hardware trigger, 0x3
for a software one, arms it and loads the working registers; on an armed channel it is refused (U8). -/
def Obligations.TriggerLoadsTheWorkingRegisters : Prop :=
  ∀ (s : State) (ch : Nat), selectXfer s.cfg.xferCh = some ch →
    (s.xfer.trigOn = false → ctlHardware s.xfer.con = true → exec (.trigger (some ch)) s = .next { s with
      xfer := { s.xfer with
        trigOn := true, trigSwreq := false, csrc := s.xfer.src, cdst := s.xfer.dst, ccnt := s.xfer.con.extractLsb' 0 20 }
      rw := s.rw ++ [.xferTrig 2#32] }) ∧
    (s.xfer.trigOn = false → ctlHardware s.xfer.con = false → exec (.trigger (some ch)) s = .next { s with
      xfer := { s.xfer with
        trigOn := true, trigSwreq := true, csrc := s.xfer.src, cdst := s.xfer.dst, ccnt := s.xfer.con.extractLsb' 0 20 }
      rw := s.rw ++ [.xferTrig 3#32] }) ∧
    (s.xfer.trigOn = true → exec (.trigger (some ch)) s = .refused .triggerArmed)

/-- Rule R129: a unit that is not the pass's last moves one byte of memory (the byte HOST last wrote at `CSRC`, or the environment's) to
the bus, steps the addresses and counts down; `RW` records nothing. The byte of an unwritten address is log entry 7. -/
def Obligations.UnitMovesOneByte : Prop :=
  ∀ s : State, UnitReady s → s.xfer.ccnt ≠ 1#20 →
    ∃ v, v = (memLookup s.mem s.xfer.csrc.toNat).getD (Config.initialByte s.xfer.csrc.toNat) ∧
      exec .xferUnit s = .next { s with
        bus := busStarted v s.bus
        tr := s.tr ++ [.tx s.gpio.dc v]
        xfer := { s.xfer with
          csrc := if s.xfer.srcc.getLsbD 0 then s.xfer.csrc else s.xfer.csrc + 1#32
          cdst := if s.xfer.dstc.getLsbD 0 then s.xfer.cdst else s.xfer.cdst + 1#32
          ccnt := s.xfer.ccnt - 1#20 } }

/-- Rule R131: after the last unit of a pass the channel reloads its working registers where reload is on, and is disabled where it is
off. -/
def Obligations.LastUnitReloadsOrDisables : Prop :=
  ∀ s : State, UnitReady s → s.xfer.ccnt = 1#20 →
    ∃ v, v = (memLookup s.mem s.xfer.csrc.toNat).getD (Config.initialByte s.xfer.csrc.toNat) ∧
      (s.xfer.con.getLsbD 22 = false → exec .xferUnit s = .next { s with
        bus := busStarted v s.bus
        tr := s.tr ++ [.tx s.gpio.dc v]
        xfer := { s.xfer with csrc := s.xfer.src, cdst := s.xfer.dst, ccnt := s.xfer.con.extractLsb' 0 20 } }) ∧
      (s.xfer.con.getLsbD 22 = true → exec .xferUnit s = .next { s with
        bus := busStarted v s.bus
        tr := s.tr ++ [.tx s.gpio.dc v]
        xfer := { s.xfer with
          csrc := if s.xfer.srcc.getLsbD 0 then s.xfer.csrc else s.xfer.csrc + 1#32
          cdst := if s.xfer.dstc.getLsbD 0 then s.xfer.cdst else s.xfer.cdst + 1#32
          ccnt := 0#20
          trigOn := false } })

/-- Rules R129, R130, R133 (decision D44), R125, R126, U10 and U22: where the spec gives the session no behaviour (a topology other than rule
R129's among them, log entry 20) the unit is refused. The model's choice: a unit asked for where XFER has no step changes nothing (log
entry 25), and the place of the refusals and the order of their grounds (log entries 10, 14 and 27). -/
def Obligations.UnitWaitsOrIsRefused : Prop :=
  ∀ s : State,
    (s.xfer.trigOn = false → exec .xferUnit s = .next s) ∧
    (s.xfer.trigOn = true → s.xfer.trigSwreq = true → exec .xferUnit s = .refused .softwareTrigger) ∧
    (s.xfer.trigOn = true → s.xfer.trigSwreq = false →
      (¬(0 ≤ s.cfg.busCh ∧ s.cfg.busCh < s.cfg.nBus) → exec .xferUnit s = .refused .streamWithoutBus) ∧
      (0 ≤ s.cfg.busCh → s.cfg.busCh < s.cfg.nBus →
        (s.xfer.con.getLsbD 31 = false → exec .xferUnit s = .refused .demandMode) ∧
        (s.xfer.con.getLsbD 31 = true →
          (s.bus.ready = false ∨ s.xfer.con.getLsbD 23 = false ∨ s.xfer.con.extractLsb' 24 3 ≠ s.cfg.reqsrcBus →
            exec .xferUnit s = .next s) ∧
          (s.bus.ready = true → s.xfer.con.getLsbD 23 = true → s.xfer.con.extractLsb' 24 3 = s.cfg.reqsrcBus →
            (s.xfer.con.extractLsb' 20 2 ≠ 0#2 → exec .xferUnit s = .refused .unitSize) ∧
            (s.xfer.con.extractLsb' 20 2 = 0#2 → s.xfer.ccnt = 0#20 → exec .xferUnit s = .refused .countRange) ∧
            (s.xfer.con.extractLsb' 20 2 = 0#2 → s.xfer.ccnt ≠ 0#20 →
              (s.xfer.srcc.getLsbD 1 = true → exec .xferUnit s = .refused .sourceNotMemory) ∧
              (s.xfer.srcc.getLsbD 1 = false → (s.xfer.dstc.getLsbD 1 = false ∨ s.xfer.cdst ≠ s.cfg.busDatAddr) →
                exec .xferUnit s = .refused .destinationNotBusData) ∧
              (s.xfer.srcc.getLsbD 1 = false → s.xfer.dstc.getLsbD 1 = true → s.xfer.cdst = s.cfg.busDatAddr →
                s.xfer.srcc.getLsbD 0 = false → s.xfer.csrc = 0xFFFFFFFF#32 → s.xfer.ccnt ≠ 1#20 →
                exec .xferUnit s = .refused .sourceWraps))))))

/-! ### The Command Sequencer (40_sequencer.md) -/

/-- Rules R81 and R82 with R159 to R161, under a responsive bus: an entry sends its tag with the line low and its parameters with the line
high, in order, and leaves `TP` after it at a head. -/
def Obligations.EntrySendsTagThenParameters : Prop :=
  ∀ (s : State) (tag len : Byte) (ps : List Byte) (ch : Nat), ps.length = len.toNat → s.bph = .idle → s.bh = some ch →
    s.cfg.busResponsive = true →
    exec (.entry tag len ps) s = .next { s with
      tp := s.tp + 2 + ps.length
      rem := 0#8
      ph := .head
      byte := entryLast (tag, ps)
      gpio := { s.gpio with dc := !ps.isEmpty }
      bus := busSent (entryLast (tag, ps)) (Config.freeByte (s.drawn + waitDraws s + ps.length)) s.bus
      tr := s.tr ++ entryEvents (tag, ps)
      rw := s.rw ++ entryWrites (tag, ps)
      drawn := s.drawn + waitDraws s + 1 + ps.length }

/-- Rule R174: with bus handle `none` the sequencer walks the entry all the same; the line moves and no byte is sent. -/
def Obligations.EntryWithoutBusMovesOnlyTheLine : Prop :=
  ∀ (s : State) (tag len : Byte) (ps : List Byte), ps.length = len.toNat → s.bph = .idle → s.bh = none →
    exec (.entry tag len ps) s = .next { s with
      tp := s.tp + 2 + ps.length
      rem := 0#8
      ph := .head
      byte := entryLast (tag, ps)
      gpio := { s.gpio with dc := !ps.isEmpty }
      tr := s.tr ++ entryLineEvents (tag, ps) }

/-- Rules R80, R82, R83 and R85: over recording sinks `play` makes exactly the calls of `Parse`, in order and no others, `L - n` of
them for `n` entries (derived in rule R83 from rule R82), ends with `TP = L`, and writes nothing but the sequencer's registers and the
list of calls (log entry 16). -/
def Obligations.PlayCallsExactlyTheParsedEntries : Prop :=
  ∀ (s : State) (es : List (Byte × List Byte)), parseTable s.cfg.table = some es → s.bph = .idle →
    ∃ t, exec (.play .recording) s = .next t ∧ t.calls = s.calls ++ es.flatMap entryCalls ∧
      (es.flatMap entryCalls).length + es.length = s.cfg.tableLen ∧ t.tp = s.cfg.tableLen ∧ t.ph = .head ∧
      t = { s with tp := t.tp, rem := t.rem, ph := t.ph, byte := t.byte, calls := t.calls }

/-- Rules R159 and R170, under a responsive bus: over the orchestrator's sinks `play` leaves in `TR` and `RW` exactly the events and data
writes of the parsed entries, and the bus idle; with bus handle `none` (rule R174) it leaves the line's events alone. -/
def Obligations.PlayLeavesExactlyTheParsedTraces : Prop :=
  ∀ (s : State) (es : List (Byte × List Byte)), parseTable s.cfg.table = some es → s.bph = .idle →
    (∀ ch, s.bh = some ch → s.bus.ready = true → s.cfg.busResponsive = true →
      ∃ t, exec (.play .orchestrator) s = .next t ∧ t.tr = s.tr ++ es.flatMap entryEvents ∧ t.rw = s.rw ++ es.flatMap entryWrites ∧
        t.tp = s.cfg.tableLen ∧ t.ph = .head ∧ t.bus.ready = true ∧ t.bus.con = s.bus.con ∧ t.bus.pre = s.bus.pre ∧
        t.gpio = { s.gpio with dc := t.gpio.dc } ∧
        t = { s with
          tp := t.tp, rem := t.rem, ph := t.ph, byte := t.byte, gpio := t.gpio, bus := t.bus, tr := t.tr, rw := t.rw
          drawn := t.drawn }) ∧
    (s.bh = none →
      ∃ t, exec (.play .orchestrator) s = .next t ∧ t.tr = s.tr ++ es.flatMap entryLineEvents ∧ t.tp = s.cfg.tableLen ∧
        t.ph = .head ∧ t.gpio = { s.gpio with dc := t.gpio.dc } ∧
        t = { s with tp := t.tp, rem := t.rem, ph := t.ph, byte := t.byte, gpio := t.gpio, tr := t.tr })

/-- Rules R160 and R161, under a responsive bus: a sink sets the line first and then sends its byte at that level; on handle `none` only
the line moves (rule R174). -/
def Obligations.SinksSetTheLineThenSend : Prop :=
  ∀ (s : State) (b : Byte) (ch : Nat), s.bph = .idle →
    (s.bh = some ch → s.cfg.busResponsive = true →
      exec (.writeCommand b) s = .next { s with
        gpio := { s.gpio with dc := false }
        bus := busSent b (Config.freeByte (s.drawn + waitDraws s)) s.bus
        tr := s.tr ++ [.dc false, .tx false b], rw := s.rw ++ [.busDat b], drawn := s.drawn + waitDraws s + 1 } ∧
      exec (.writeParameter b) s = .next { s with
        gpio := { s.gpio with dc := true }
        bus := busSent b (Config.freeByte (s.drawn + waitDraws s)) s.bus
        tr := s.tr ++ [.dc true, .tx true b], rw := s.rw ++ [.busDat b], drawn := s.drawn + waitDraws s + 1 }) ∧
    (s.bh = none →
      exec (.writeCommand b) s = .next { s with gpio := { s.gpio with dc := false }, tr := s.tr ++ [.dc false] } ∧
      exec (.writeParameter b) s = .next { s with gpio := { s.gpio with dc := true }, tr := s.tr ++ [.dc true] })

/-- Rule R41: inside the table the byte and nothing else; at or past `L` the fault that the rule gives a model, or, under a configuration
that asks for the hardware of the same rule (log entry 6), a free byte with `MALFORMED` set. -/
def Obligations.TableReadInsideAndPastTheEnd : Prop :=
  ∀ (s : State) (off : Nat),
    (∀ b, s.cfg.table[off]? = some b → exec (.tableRead off) s = .next { s with result := .byte b }) ∧
    (s.cfg.table.length ≤ off → s.cfg.overrunStops = false →
      exec (.tableRead off) s = .next { s with
        result := .byte (Config.freeByte s.drawn), malformed := true, drawn := s.drawn + 1 }) ∧
    (s.cfg.table.length ≤ off → s.cfg.overrunStops = true → exec (.tableRead off) s = .fault .tableOverrun)

/-- Rule R89 with R106 and R159, inside the table: the transitions of step 4, one by one; with bus handle `none` (rule R174) a sink moves the
line and returns at once. -/
def Obligations.PlaybackTransitions : Prop :=
  ∀ (s : State) (x y : Byte), s.ost = .play →
    (s.bph = .idle → s.ph = .head → s.cfg.table.length ≤ s.tp →
      exec .step4CommandPlayback s = .next { s with sub := 0#2, ost := .window }) ∧
    (s.bph = .idle → s.ph = .head → s.cfg.table[s.tp]? = some x → s.cfg.table[s.tp + 1]? = some y →
      (∀ ch, s.bh = some ch → exec .step4CommandPlayback s = .next { s with
        byte := x, rem := y, tp := s.tp + 2, ph := .cmd, bph := .w1
        gpio := { s.gpio with dc := false }, tr := s.tr ++ [.dc false] }) ∧
      (s.bh = none → exec .step4CommandPlayback s = .next { s with
        byte := x, rem := y, tp := s.tp + 2, ph := if y = 0#8 then .head else .param
        gpio := { s.gpio with dc := false }, tr := s.tr ++ [.dc false] })) ∧
    (s.bph = .idle → s.ph = .param → s.rem ≠ 0#8 → s.cfg.table[s.tp]? = some x →
      (∀ ch, s.bh = some ch → exec .step4CommandPlayback s = .next { s with
        byte := x, rem := s.rem - 1#8, tp := s.tp + 1, bph := .w1
        gpio := { s.gpio with dc := true }, tr := s.tr ++ [.dc true] }) ∧
      (s.bh = none → exec .step4CommandPlayback s = .next { s with
        byte := x, rem := s.rem - 1#8, tp := s.tp + 1, ph := if s.rem = 1#8 then .head else .param
        gpio := { s.gpio with dc := true }, tr := s.tr ++ [.dc true] })) ∧
    (s.bph = .w1 → s.bus.ready = true →
      exec .step4CommandPlayback s = .next { s with
        bus := busStarted s.byte s.bus, tr := s.tr ++ [.tx s.gpio.dc s.byte], rw := s.rw ++ [.busDat s.byte], bph := .w2 }) ∧
    (s.bph = .w2 → s.bus.ready = true →
      exec .step4CommandPlayback s = .next { s with bph := .idle, ph := if s.rem = 0#8 then .head else .param }) ∧
    (s.bph ≠ .idle → s.bus.ready = false → exec .step4CommandPlayback s = .next s)

/-- Rules R88 and R89: a header whose length byte is missing, and a parameter that is, stop step 4 with the fault that R88 gives a model; under
a configuration that asks for the hardware of the same rule (log entry 6) a free length is read before the tag is sent, or a free
parameter is sent, and `MALFORMED` is set. -/
def Obligations.OverrunInPlayback : Prop :=
  ∀ (s : State) (ch : Nat) (x : Byte), s.ost = .play → s.bh = some ch → s.bph = .idle →
    (s.ph = .head → s.cfg.table[s.tp]? = some x → s.tp + 1 = s.cfg.table.length →
      (s.cfg.overrunStops = true → exec .step4CommandPlayback s = .fault .tableOverrun) ∧
      (s.cfg.overrunStops = false → exec .step4CommandPlayback s = .next { s with
        byte := x, rem := Config.freeByte s.drawn, tp := s.tp + 2, ph := .cmd, bph := .w1
        gpio := { s.gpio with dc := false }, tr := s.tr ++ [.dc false], malformed := true, drawn := s.drawn + 1 })) ∧
    (s.ph = .param → s.rem ≠ 0#8 → s.cfg.table.length ≤ s.tp →
      (s.cfg.overrunStops = true → exec .step4CommandPlayback s = .fault .tableOverrun) ∧
      (s.cfg.overrunStops = false → exec .step4CommandPlayback s = .next { s with
        byte := Config.freeByte s.drawn, rem := s.rem - 1#8, tp := s.tp + 1, bph := .w1
        gpio := { s.gpio with dc := true }, tr := s.tr ++ [.dc true], malformed := true, drawn := s.drawn + 1 }))

/-- Rule R89 refines rule R81: on an idle, responsive bus the transitions of step 4 with BUS completing each shift reach, for an entry that
stands in the table at `TP`, exactly the state `ENTRY` gives. -/
def Obligations.EntryIsItsTransitions : Prop :=
  ∀ (s t : State) (tag len : Byte) (ps rest : List Byte) (ch : Nat) (more : List Move), s.ost = .play → s.ph = .head → s.bph = .idle →
    s.bh = some ch → s.bus.ready = true → s.cfg.busResponsive = true →
    decodeEntry (s.cfg.table.drop s.tp) = .ok (.entry tag len ps, rest) → exec (.entry tag len ps) s = .next t →
    core.run (4 * (ps.length + 1)) { s with agenda := (List.replicate (ps.length + 1) byteSchedule).flatten ++ more } =
      .next { t with agenda := more }

/-! ### Encoding (30_encoding.md) -/

/-- Rules R61, R68 and R10: decoding a well-formed instruction's code gives the instruction back, every operand at every value. -/
def Obligations.DecodeOfEncode : Prop :=
  ∀ (i : Instr) (c : Code), i.wellFormed = true → encode i = some c → decode c = .ok (i, [])

/-- Rule R64, whole: the three equations of `Parse` at an offset, and for a well-formed table the consumed bytes add up to `L`. -/
def Obligations.ParseEquations : Prop :=
  ∀ (T : List Byte) (o : Nat),
    (T.length ≤ o → parseTable (T.drop o) = some []) ∧
    (∀ tag len, T[o]? = some tag → T[o + 1]? = some len → o + 2 + len.toNat ≤ T.length →
      parseTable (T.drop o) =
        (parseTable (T.drop (o + 2 + len.toNat))).map ((tag, (T.drop (o + 2)).take len.toNat) :: ·)) ∧
    (o < T.length → (T[o + 1]? = none ∨ ∃ len, T[o + 1]? = some len ∧ T.length < o + 2 + len.toNat) →
      parseTable (T.drop o) = none) ∧
    (tableWellFormed T = true ↔ ∃ es, parseTable T = some es) ∧
    (∀ es, parseTable T = some es → (es.map fun e => 2 + e.2.length).sum = T.length)

/-- Rules R60 to R62 and R64: a table is well-formed with entries `es` exactly when it is their byte images one after another, each with at
most 255 parameters. -/
def Obligations.ParseInvertsTheByteImage : Prop :=
  ∀ (T : List Byte) (es : List (Byte × List Byte)),
    parseTable T = some es ↔ (T = es.flatMap entryBytes ∧ ∀ e ∈ es, e.2.length ≤ 255)

/-- 30_encoding.md rules R61 and R68 and 10_state.md rule R10: a few codes written out from the encoding tables. -/
def Obligations.SampleWordsDecode : Prop :=
  decode (.table [0x3A#8, 0x01#8, 0x05#8]) = .ok (.entry 0x3A#8 0x01#8 [0x05#8], []) ∧
  decode (.table [0x11#8, 0x00#8, 0x3A#8]) = .ok (.entry 0x11#8 0x00#8 [], [0x3A#8]) ∧
  decode (.table [0x3A#8]) = .error .truncatedHeader ∧
  decode (.hcmd 0b01#2 0x31000000#32) = .ok (.init 0x31000000#32, []) ∧
  decode (.hcmd 0b10#2 0x12345655#32) = .ok (.writeByte 0x12345655#32, []) ∧
  decode (.ost 0b1000#4) = .ok (.step8Trigger, []) ∧
  decode (.ost 0b1010#4) = .error (.reservedStep 0b1010#4)

/-! ### The step -/

/-- A step runs the decoded instruction: the entry whose bytes stand at `TP` when the sequencer is at a head (rules R66, R81), the step
that `OST` names when it is another bring-up step and the thread is in no wait (rule R151), and the command on the port (rule R68).
The model's choice: with nothing scheduled the thread moves first (log entry 1), and at a head it runs the whole entry (log entry 23). -/
def Obligations.StepRunsTheDecodedInstruction : Prop :=
  ∀ (s : State) (i : Instr) (rest : List Byte),
    (s.agenda = [] → s.ost = .play → s.ph = .head → s.bph = .idle → s.tp < s.cfg.table.length →
      decode (.table (s.cfg.table.drop s.tp)) = .ok (i, rest) → step s = exec i s) ∧
    (s.agenda = [] → s.ost ≠ .play → s.ost ≠ .handoff → threadWaits s = false → decode (.ost (ostCode s.ost)) = .ok (i, rest) →
      step s = exec i s) ∧
    (∀ code harg more, s.agenda = .host code harg :: more → decode (.hcmd code harg) = .ok (i, rest) →
      step s = exec i { s with agenda := more })

/-- 00_scope.md rule R4: the moves of the agents. Scheduled: BUS, XFER, RESET, ENV's answer to a delay (log entry 21), and the thread's next
transition (the step `OST` names, by the code of 10_state.md rule R10, or the byte transfer of a WRITE_BYTE that has not returned, log
entry 23). Unscheduled, where only they can get on (the order is the model's, log entry 1): XFER on a software request, which is
refused (rule R130), BUS, XFER on the bus's request, and nobody. -/
def Obligations.StepRunsTheAgents : Prop :=
  ∀ (s : State) (more : List Move),
    (s.agenda = .bus :: more → step s = exec (.busShift .complete) { s with agenda := more }) ∧
    (s.agenda = .xfer :: more → step s = exec .xferUnit { s with agenda := more }) ∧
    (s.agenda = .reset :: more → step s = exec .reset { s with agenda := more }) ∧
    (s.agenda = .env :: more → s.ost = .resetPulse → (s.sub = 1#2 ∨ s.sub = 3#2) →
      step s = .next { s with agenda := more, delayDone := true }) ∧
    (s.agenda = .env :: more → (s.ost ≠ .resetPulse ∨ s.sub = 0#2 ∨ s.sub = 2#2) → step s = .next { s with agenda := more }) ∧
    (s.agenda = .orch :: more → s.ost = .idle → step s = .next { s with agenda := more }) ∧
    (∀ i rest, s.agenda = .orch :: more → (s.ost ≠ .handoff ∨ s.bph = .idle) → decode (.ost (ostCode s.ost)) = .ok (i, rest) →
      step s = exec i { s with agenda := more }) ∧
    (s.agenda = .orch :: more → s.ost = .handoff → s.bph ≠ .idle →
      step s = exec (.writeOnly s.bh s.byte) { s with agenda := more }) ∧
    (s.agenda = [] → threadActive s = false → s.xfer.trigOn = true → s.xfer.trigSwreq = true → step s = .refused .softwareTrigger) ∧
    (s.agenda = [] → s.ost = .handoff → s.bph = .idle → s.xfer.trigSwreq = false → s.bus.ready = false → s.cfg.busResponsive = true →
      step s = exec (.busShift .complete) s) ∧
    (s.agenda = [] → s.ost = .handoff → s.bph = .idle → UnitReady s → step s = exec .xferUnit s) ∧
    (s.agenda = [] → s.ost = .idle → s.bph = .idle → s.bus.ready = true → s.xfer.trigOn = false → step s = .next s)

/-- Rules R192 and R205 (U19, U20): with nothing scheduled and no software request pending, a thread in a busy-wait of step 4 whose bus never
answers, and one in a delay of step 3 that never ends, stay there: every step gives the same state, which is no fault. -/
def Obligations.HungThreadNeverAdvances : Prop :=
  ∀ (s : State) (k : Nat), s.agenda = [] → s.xfer.trigSwreq = false →
    (s.ost = .play → s.bph ≠ .idle → s.bus.ready = false → s.cfg.busResponsive = false → core.run k s = .next s) ∧
    (s.ost = .resetPulse → (s.sub = 1#2 ∨ s.sub = 3#2) → s.cfg.delaysEnd = false → s.delayDone = false → s.bus.ready = true →
      s.xfer.trigOn = false → core.run k s = .next s)

/-! ### Whole-machine rules -/

/-- The memory's canonical form is kept by every step, and a framebuffer byte HOST writes (20_memory.md rule R49) is read back while every
other byte is as it was; during bring-up HOST has no such move (70_reset_and_hazards.md rule R243, log entry 22). -/
def Obligations.StepsKeepMemoryCanonical : Prop :=
  (∀ s t : State, memWf s.mem = true → step s = .next t → memWf t.mem = true) ∧
  (∀ (s : State) (a : Addr) (b : Byte) (more : List Move), memWf s.mem = true → s.agenda = .hostWrite a b :: more →
    (s.ost = .idle ∨ s.ost = .handoff) →
    ∃ t, step s = .next t ∧ memRead t.mem a = b ∧ (∀ a' : Addr, a' ≠ a → memRead t.mem a' = memRead s.mem a') ∧
      t = { s with mem := t.mem, agenda := more }) ∧
  (∀ (s : State) (a : Addr) (b : Byte) (more : List Move), s.agenda = .hostWrite a b :: more → s.ost ≠ .idle → s.ost ≠ .handoff →
    step s = .refused .hostOutsideContract)

/-- Rules R5, R11, R12, R17, R46, R89, R106, R151, R158, R164, R228 and R229 together: the control invariant is kept by every step. -/
def Obligations.StepsKeepControlInvariant : Prop :=
  ∀ s t : State, ControlInv s → step s = .next t → ControlInv t

/-- The control invariant holds after reset, under every configuration. -/
def Obligations.ResetHasControlInvariant : Prop := ∀ c : Config, ControlInv (State.resetWith c)

/-- Rules R10 and R151: `OST` stays, goes up by one, or returns to 0 by RESET. -/
def Obligations.OrchestratorIsStrictlyForward : Prop :=
  ∀ s t : State, step s = .next t →
    t.ost = s.ost ∨ (ostCode t.ost).toNat = (ostCode s.ost).toNat + 1 ∨ (t.ost = .idle ∧ s.agenda.head? = some .reset)

/-- Rule R162: while a shift is in progress no step but RESET changes a line. -/
def Obligations.LineIsStableOverAShift : Prop :=
  ∀ s t : State, ControlInv s → s.bus.ready = false → s.agenda.head? ≠ some .reset → step s = .next t → t.gpio = s.gpio

/-- Rules R230 and R114: after hand-off no step but RESET changes the session registers, the bus control register or the prescaler, or
leaves hand-off. -/
def Obligations.SessionIsFixedAfterHandoff : Prop :=
  ∀ s t : State, s.ost = .handoff → s.agenda.head? ≠ some .reset → step s = .next t →
    t.ost = .handoff ∧ t.xfer.src = s.xfer.src ∧ t.xfer.srcc = s.xfer.srcc ∧ t.xfer.dst = s.xfer.dst ∧ t.xfer.dstc = s.xfer.dstc ∧
    t.xfer.con = s.xfer.con ∧ t.bus.con = s.bus.con ∧ t.bus.pre = s.bus.pre ∧ t.gpio = s.gpio

/-- 10_state.md rules R38 and R18: every instruction but RESET only extends the two traces and never clears `MALFORMED`, which only the
instructions that read the table can set. -/
def Obligations.TracesGrowAndMalformedSticks : Prop :=
  ∀ (i : Instr) (s t : State), i ≠ .reset → exec i s = .next t →
    s.tr <+: t.tr ∧ s.rw <+: t.rw ∧ (s.malformed = true → t.malformed = true) ∧
    ((footprint i).malformed = false → t.malformed = s.malformed)

/-- The frames of 20_memory.md rules R40, R45 and 10_state.md rules R17, R36: no instruction writes a parameter or a byte of memory, and each
element of the block but the traces and the returned values is written only by the rows whose rules say so (the place
inside an action and the schedule are the model's: log entries 31, 21 and 1). -/
def Obligations.EachBlockHasItsWriters : Prop :=
  ∀ (i : Instr) (s t : State), exec i s = .next t →
    t.cfg = s.cfg ∧ t.agenda = s.agenda ∧ (∀ a : Addr, memRead t.mem a = memRead s.mem a) ∧
    ((footprint i).xfer = false → t.xfer = s.xfer) ∧
    ((footprint i).busCon = false → t.bus.con = s.bus.con) ∧
    ((footprint i).busPre = false → t.bus.pre = s.bus.pre) ∧
    ((footprint i).busReady = false → t.bus.ready = s.bus.ready) ∧
    ((footprint i).busData = false → t.bus.dat = s.bus.dat ∧ t.bus.shift = s.bus.shift) ∧
    ((footprint i).transfer = false → t.bph = s.bph) ∧
    ((footprint i).seqByte = false → t.byte = s.byte) ∧
    ((footprint i).action = false → t.midAction = s.midAction ∧ t.delayDone = s.delayDone) ∧
    ((footprint i).malformed = false → t.malformed = s.malformed) ∧
    ((footprint i).lines = false → t.gpio = s.gpio) ∧
    ((footprint i).position = false → t.ost = s.ost ∧ t.sub = s.sub) ∧
    ((footprint i).sequencer = false → t.tp = s.tp ∧ t.rem = s.rem ∧ t.ph = s.ph) ∧
    (i ≠ .reset → (∀ fb, i ≠ .init fb) → t.fbb = s.fbb ∧ t.bh = s.bh ∧ t.xh = s.xh)

/-- Rules R242 and R170: from IDLE, with a legal configuration, a responsive bus (rule R109) and delays that end (rule R158), INIT and then
unscheduled steps alone reach hand-off with the end state and the traces those rules list. The order of the unscheduled steps is the
model's choice (log entry 1), and it runs whole entries (log entry 23). -/
def Obligations.BringUpReachesHandoff : Prop :=
  ∀ (s : State) (fb : Addr) (es : List (Byte × List Byte)), ControlInv s → s.ost = .idle → s.agenda = [] →
    configLegal s.cfg = true → s.cfg.busResponsive = true → s.cfg.delaysEnd = true → parseTable s.cfg.table = some es →
    ∃ k p w t, prescaler s.cfg.pclk s.cfg.targetHz = some p ∧ ctlWord s.cfg = some w ∧
      core.run k { s with agenda := [.host 1#2 fb] } = .next t ∧ t.ost = .handoff ∧ t.bph = .idle ∧ t.ph = .head ∧
      t.tp = s.cfg.tableLen ∧ t.malformed = s.malformed ∧ t.gpio = ⟨true, true, true, true⟩ ∧ t.bus.con = modeBits s.cfg ∧
      t.bus.pre = p ∧ t.bus.ready = true ∧
      t.xfer = ⟨fb, srccBits s.cfg, s.cfg.busDatAddr, 3#32, w, true, false, fb, s.cfg.busDatAddr, BitVec.ofNat 20 s.cfg.count⟩ ∧
      t.tr = s.tr ++ [.dir .rst, .dir .dc, .rst false, .wait s.cfg.tLowMs, .rst true, .wait s.cfg.tHighMs] ++
        es.flatMap entryEvents ++ [.dc true] ∧
      t.rw = s.rw ++ [.busCon 0#8, .busCon (modeBits s.cfg), .busPre p] ++ es.flatMap entryWrites ++
        [.xferSrc fb, .xferSrcc (srccBits s.cfg), .xferDst s.cfg.busDatAddr, .xferDstc 3#32, .xferCon w, .xferTrig 2#32]

/-- Rule R134: once armed at hand-off, with a `DIRMODE` that suits (the premise rule R110 asks of such a claim, log entry 24), a responsive bus
(rule R109) and a pass that ends inside memory (U10), unscheduled steps send the bytes of memory from `CSRC` on in address order
(`SRC_INC = increment`), as long as the pass lasts. That `k` bytes take `2 * k` steps is the model's order of unscheduled steps (log
entry 1) with `BUSREQ = READY` (log entry 24). -/
def Obligations.StreamSendsMemoryInOrder : Prop :=
  ∀ (s : State) (k : Nat), s.ost = .handoff → s.bph = .idle → s.agenda = [] → s.cfg.busResponsive = true → dirmodeSuits s = true →
    UnitReady s → incFixed s.xfer.srcc = false → incFixed s.xfer.dstc = true →
    s.xfer.csrc.toNat + s.xfer.ccnt.toNat ≤ 2 ^ 32 → k < s.xfer.ccnt.toNat →
    ∃ t, core.run (2 * k) s = .next t ∧
      t.tr = s.tr ++ (List.range k).map (fun n => .tx s.gpio.dc (memRead s.mem (s.xfer.csrc + BitVec.ofNat 32 n))) ∧
      t.rw = s.rw ∧ t.xfer = { s.xfer with
        csrc := s.xfer.csrc + BitVec.ofNat 32 k, ccnt := s.xfer.ccnt - BitVec.ofNat 20 k } ∧ UnitReady t
end

