-- ==== Sys2Proof/Laws/Memory.lean ====
section
/-! SUPPORT. The laws of system memory: read after write, and every operation keeps the canonical form. -/

namespace Sys2Proof.Machine

/-- A byte just written is found. -/
theorem memLookup_memInsert_self (m : List Host.Cell) (a : Nat) (b : Byte) : memLookup (memInsert m a b) a = some b := by
  induction m with
  | nil => simp [memInsert, memLookup]
  | cons kc rest ih =>
    obtain ⟨k, c⟩ := kc
    simp only [memInsert]
    split
    · simp [memLookup]
    · split
      · simp [memLookup]
      · rename_i h1 h2
        simp [memLookup, ih, Ne.symm h2]

/-- A write leaves every other address as it was. -/
theorem memLookup_memInsert_ne (m : List Host.Cell) (a a' : Nat) (b : Byte) (h : a' ≠ a) :
    memLookup (memInsert m a b) a' = memLookup m a' := by
  induction m with
  | nil => simp [memInsert, memLookup, Ne.symm h]
  | cons kc rest ih =>
    obtain ⟨k, c⟩ := kc
    simp only [memInsert]
    split
    · simp [memLookup, Ne.symm h]
    · split
      · rename_i h1 h2
        subst h2
        simp [memLookup, Ne.symm h]
      · simp [memLookup, ih]

/-- A list that rises from one bound rises from every lower one. -/
theorem memRising_mono (lo lo' : Option Nat) (m : List Host.Cell) (h : memRising lo m = true)
    (hlo : ∀ x, lo'.all (· < x) = true ∨ lo.all (· < x) = false) : memRising lo' m = true := by
  cases m with
  | nil => rfl
  | cons kc rest =>
    obtain ⟨k, c⟩ := kc
    simp only [memRising, Bool.and_eq_true] at h ⊢
    refine ⟨⟨?_, h.1.2⟩, h.2⟩
    rcases hlo k with hk | hk
    · exact hk
    · rw [hk] at h; simp at h

/-- A write of an address of the address space above the bound keeps the list rising. -/
theorem memRising_memInsert (lo : Option Nat) (m : List Host.Cell) (a : Nat) (b : Byte) (hm : memRising lo m = true)
    (hlo : lo.all (· < a) = true) (ha : a < 2 ^ 32) : memRising lo (memInsert m a b) = true := by
  induction m generalizing lo with
  | nil => simp [memInsert, memRising, hlo]; omega
  | cons kc rest ih =>
    obtain ⟨k, c⟩ := kc
    simp only [memRising, Bool.and_eq_true, decide_eq_true_eq] at hm
    obtain ⟨⟨hk, hkb⟩, hrest⟩ := hm
    simp only [memInsert]
    split
    · rename_i hak
      simp [memRising, hlo, hak, hrest]; omega
    · split
      · rename_i h1 h2
        subst h2
        simp [memRising, hk, hrest]; omega
      · rename_i h1 h2
        have hka : k < a := by omega
        simp [memRising, hk, ih (some k) hrest (by simp [hka])]; omega

/-- HOST's write keeps the canonical form. -/
theorem memWf_memWrite (m : List Host.Cell) (a : Addr) (b : Byte) (h : memWf m = true) : memWf (memWrite m a b) = true :=
  memRising_memInsert none m a.toNat b h rfl a.isLt

/-- A byte HOST has written is read back. -/
@[simp] theorem memRead_memWrite_self (m : List Host.Cell) (a : Addr) (b : Byte) : memRead (memWrite m a b) a = b := by
  simp [memRead, memWrite, memLookup_memInsert_self]

/-- Every other byte reads as it did. -/
theorem memRead_memWrite_ne (m : List Host.Cell) (a a' : Addr) (b : Byte) (h : a' ≠ a) :
    memRead (memWrite m a b) a' = memRead m a' := by
  have : a'.toNat ≠ a.toNat := fun e => h (BitVec.eq_of_toNat_eq e)
  simp [memRead, memWrite, memLookup_memInsert_ne m a.toNat a'.toNat b this]

end Sys2Proof.Machine
end

