-- ==== Sys2Proof/Laws/Operands.lean ====
section
/-! SUPPORT. What the operand words are: the prescaler's range, the fields of a control word and of a trigger word. -/

namespace Sys2Proof.Machine

/-- In range the prescaler value is the quotient less one (41_bus_channel.md rule R103). -/
theorem prescaler_of_range {pclk hz : Nat} (h1 : 1 ≤ pclk / 2 / hz) (h2 : pclk / 2 / hz ≤ 256) :
    prescaler pclk hz = some (BitVec.ofNat 8 (pclk / 2 / hz - 1)) := if_pos ⟨h1, h2⟩

/-- Out of range there is none (rule R104). -/
theorem prescaler_out_of_range {pclk hz : Nat} (h : ¬(1 ≤ pclk / 2 / hz ∧ pclk / 2 / hz ≤ 256)) : prescaler pclk hz = none :=
  if_neg h

/-- Where there is a prescaler value, the quotient is in range. -/
theorem prescaler_some {pclk hz : Nat} {p : Byte} (h : prescaler pclk hz = some p) :
    1 ≤ pclk / 2 / hz ∧ pclk / 2 / hz ≤ 256 ∧ p = BitVec.ofNat 8 (pclk / 2 / hz - 1) := by
  by_cases hr : 1 ≤ pclk / 2 / hz ∧ pclk / 2 / hz ≤ 256
  · rw [prescaler_of_range hr.1 hr.2] at h
    cases h
    exact ⟨hr.1, hr.2, rfl⟩
  · rw [prescaler_out_of_range hr] at h
    cases h

/-- In range the control word is made of the fields of rule R72 of 30_encoding.md. -/
theorem ctlWord_of_range {c : Config} (h1 : 1 ≤ c.count) (h2 : c.count < 2 ^ 20) :
    ctlWord c = some (controlWord 1#1 c.reqsrcBus 1#1 (if c.reload then 0#1 else 1#1) 0#2 (BitVec.ofNat 20 c.count)) :=
  if_pos ⟨h1, h2⟩

/-- Out of range there is none (42_transfer_engine.md rule R125). -/
theorem ctlWord_out_of_range {c : Config} (h : ¬(1 ≤ c.count ∧ c.count < 2 ^ 20)) : ctlWord c = none := if_neg h

@[simp] theorem ctlCount_controlWord (m : BitVec 1) (r : BitVec 3) (t n : BitVec 1) (u : BitVec 2) (k : BitVec 20) :
    ctlCount (controlWord m r t n u k) = k := by
  apply BitVec.eq_of_getLsbD_eq
  intro i hi
  simp only [ctlCount, controlWord, BitVec.getLsbD_extractLsb', BitVec.getLsbD_append]
  simp [hi]

@[simp] theorem ctlHardware_controlWord (m : BitVec 1) (r : BitVec 3) (t n : BitVec 1) (u : BitVec 2) (k : BitVec 20) :
    ctlHardware (controlWord m r t n u k) = t.getLsbD 0 := by
  simp only [ctlHardware, controlWord, BitVec.getLsbD_append]
  simp

/-- A trigger word always arms (42_transfer_engine.md rule R128). -/
@[simp] theorem trigFieldOn_triggerWord (w : Word) : trigFieldOn (triggerWord w) = true := by
  simp only [triggerWord]; split <;> decide

/-- A trigger word asks for a software transfer exactly where the trigger source is software (rule R128). -/
@[simp] theorem trigFieldSwreq_triggerWord (w : Word) : trigFieldSwreq (triggerWord w) = !ctlHardware w := by
  simp only [triggerWord]; split <;> simp_all [trigFieldSwreq]

/-- Arming a channel that is not armed (rule R127). -/
theorem storeTrig_triggerWord {x : XferBlock} (h : x.trigOn = false) (w : Word) :
    storeTrig (triggerWord w) x = { x with
      trigOn := true, trigSwreq := !ctlHardware w, csrc := x.src, cdst := x.dst, ccnt := ctlCount x.con } := by
  simp [storeTrig, h, loadWorking]

end Sys2Proof.Machine
end

