-- ==== Sys2Proof/Laws/State.lean ====
section
/-! SUPPORT. One lemma per field per update of State, so that no proof unfolds a record update. -/

namespace Sys2Proof.Machine

@[simp] theorem emit_cfg (e : Event) (s : State) : (emit e s).cfg = s.cfg := rfl
@[simp] theorem emit_ost (e : Event) (s : State) : (emit e s).ost = s.ost := rfl
@[simp] theorem emit_sub (e : Event) (s : State) : (emit e s).sub = s.sub := rfl
@[simp] theorem emit_bph (e : Event) (s : State) : (emit e s).bph = s.bph := rfl
@[simp] theorem emit_midAction (e : Event) (s : State) : (emit e s).midAction = s.midAction := rfl
@[simp] theorem emit_delayDone (e : Event) (s : State) : (emit e s).delayDone = s.delayDone := rfl
@[simp] theorem emit_fbb (e : Event) (s : State) : (emit e s).fbb = s.fbb := rfl
@[simp] theorem emit_bh (e : Event) (s : State) : (emit e s).bh = s.bh := rfl
@[simp] theorem emit_xh (e : Event) (s : State) : (emit e s).xh = s.xh := rfl
@[simp] theorem emit_tp (e : Event) (s : State) : (emit e s).tp = s.tp := rfl
@[simp] theorem emit_rem (e : Event) (s : State) : (emit e s).rem = s.rem := rfl
@[simp] theorem emit_ph (e : Event) (s : State) : (emit e s).ph = s.ph := rfl
@[simp] theorem emit_byte (e : Event) (s : State) : (emit e s).byte = s.byte := rfl
@[simp] theorem emit_malformed (e : Event) (s : State) : (emit e s).malformed = s.malformed := rfl
@[simp] theorem emit_gpio (e : Event) (s : State) : (emit e s).gpio = s.gpio := rfl
@[simp] theorem emit_bus (e : Event) (s : State) : (emit e s).bus = s.bus := rfl
@[simp] theorem emit_xfer (e : Event) (s : State) : (emit e s).xfer = s.xfer := rfl
@[simp] theorem emit_mem (e : Event) (s : State) : (emit e s).mem = s.mem := rfl
@[simp] theorem emit_tr (e : Event) (s : State) : (emit e s).tr = s.tr ++ [e] := rfl
@[simp] theorem emit_rw (e : Event) (s : State) : (emit e s).rw = s.rw := rfl
@[simp] theorem emit_calls (e : Event) (s : State) : (emit e s).calls = s.calls := rfl
@[simp] theorem emit_result (e : Event) (s : State) : (emit e s).result = s.result := rfl
@[simp] theorem emit_drawn (e : Event) (s : State) : (emit e s).drawn = s.drawn := rfl
@[simp] theorem emit_agenda (e : Event) (s : State) : (emit e s).agenda = s.agenda := rfl

@[simp] theorem returning_cfg (r : OpResult) (s : State) : (returning r s).cfg = s.cfg := rfl
@[simp] theorem returning_ost (r : OpResult) (s : State) : (returning r s).ost = s.ost := rfl
@[simp] theorem returning_sub (r : OpResult) (s : State) : (returning r s).sub = s.sub := rfl
@[simp] theorem returning_bph (r : OpResult) (s : State) : (returning r s).bph = s.bph := rfl
@[simp] theorem returning_midAction (r : OpResult) (s : State) : (returning r s).midAction = s.midAction := rfl
@[simp] theorem returning_delayDone (r : OpResult) (s : State) : (returning r s).delayDone = s.delayDone := rfl
@[simp] theorem returning_fbb (r : OpResult) (s : State) : (returning r s).fbb = s.fbb := rfl
@[simp] theorem returning_bh (r : OpResult) (s : State) : (returning r s).bh = s.bh := rfl
@[simp] theorem returning_xh (r : OpResult) (s : State) : (returning r s).xh = s.xh := rfl
@[simp] theorem returning_tp (r : OpResult) (s : State) : (returning r s).tp = s.tp := rfl
@[simp] theorem returning_rem (r : OpResult) (s : State) : (returning r s).rem = s.rem := rfl
@[simp] theorem returning_ph (r : OpResult) (s : State) : (returning r s).ph = s.ph := rfl
@[simp] theorem returning_byte (r : OpResult) (s : State) : (returning r s).byte = s.byte := rfl
@[simp] theorem returning_malformed (r : OpResult) (s : State) : (returning r s).malformed = s.malformed := rfl
@[simp] theorem returning_gpio (r : OpResult) (s : State) : (returning r s).gpio = s.gpio := rfl
@[simp] theorem returning_bus (r : OpResult) (s : State) : (returning r s).bus = s.bus := rfl
@[simp] theorem returning_xfer (r : OpResult) (s : State) : (returning r s).xfer = s.xfer := rfl
@[simp] theorem returning_mem (r : OpResult) (s : State) : (returning r s).mem = s.mem := rfl
@[simp] theorem returning_tr (r : OpResult) (s : State) : (returning r s).tr = s.tr := rfl
@[simp] theorem returning_rw (r : OpResult) (s : State) : (returning r s).rw = s.rw := rfl
@[simp] theorem returning_calls (r : OpResult) (s : State) : (returning r s).calls = s.calls := rfl
@[simp] theorem returning_result (r : OpResult) (s : State) : (returning r s).result = r := rfl
@[simp] theorem returning_drawn (r : OpResult) (s : State) : (returning r s).drawn = s.drawn := rfl
@[simp] theorem returning_agenda (r : OpResult) (s : State) : (returning r s).agenda = s.agenda := rfl

@[simp] theorem draw_cfg (s : State) : (draw s).cfg = s.cfg := rfl
@[simp] theorem draw_ost (s : State) : (draw s).ost = s.ost := rfl
@[simp] theorem draw_sub (s : State) : (draw s).sub = s.sub := rfl
@[simp] theorem draw_bph (s : State) : (draw s).bph = s.bph := rfl
@[simp] theorem draw_midAction (s : State) : (draw s).midAction = s.midAction := rfl
@[simp] theorem draw_delayDone (s : State) : (draw s).delayDone = s.delayDone := rfl
@[simp] theorem draw_fbb (s : State) : (draw s).fbb = s.fbb := rfl
@[simp] theorem draw_bh (s : State) : (draw s).bh = s.bh := rfl
@[simp] theorem draw_xh (s : State) : (draw s).xh = s.xh := rfl
@[simp] theorem draw_tp (s : State) : (draw s).tp = s.tp := rfl
@[simp] theorem draw_rem (s : State) : (draw s).rem = s.rem := rfl
@[simp] theorem draw_ph (s : State) : (draw s).ph = s.ph := rfl
@[simp] theorem draw_byte (s : State) : (draw s).byte = s.byte := rfl
@[simp] theorem draw_malformed (s : State) : (draw s).malformed = s.malformed := rfl
@[simp] theorem draw_gpio (s : State) : (draw s).gpio = s.gpio := rfl
@[simp] theorem draw_bus (s : State) : (draw s).bus = s.bus := rfl
@[simp] theorem draw_xfer (s : State) : (draw s).xfer = s.xfer := rfl
@[simp] theorem draw_mem (s : State) : (draw s).mem = s.mem := rfl
@[simp] theorem draw_tr (s : State) : (draw s).tr = s.tr := rfl
@[simp] theorem draw_rw (s : State) : (draw s).rw = s.rw := rfl
@[simp] theorem draw_calls (s : State) : (draw s).calls = s.calls := rfl
@[simp] theorem draw_result (s : State) : (draw s).result = s.result := rfl
@[simp] theorem draw_drawn (s : State) : (draw s).drawn = s.drawn + 1 := rfl
@[simp] theorem draw_agenda (s : State) : (draw s).agenda = s.agenda := rfl

@[simp] theorem setMalformed_cfg (s : State) : (setMalformed s).cfg = s.cfg := rfl
@[simp] theorem setMalformed_ost (s : State) : (setMalformed s).ost = s.ost := rfl
@[simp] theorem setMalformed_sub (s : State) : (setMalformed s).sub = s.sub := rfl
@[simp] theorem setMalformed_bph (s : State) : (setMalformed s).bph = s.bph := rfl
@[simp] theorem setMalformed_midAction (s : State) : (setMalformed s).midAction = s.midAction := rfl
@[simp] theorem setMalformed_delayDone (s : State) : (setMalformed s).delayDone = s.delayDone := rfl
@[simp] theorem setMalformed_fbb (s : State) : (setMalformed s).fbb = s.fbb := rfl
@[simp] theorem setMalformed_bh (s : State) : (setMalformed s).bh = s.bh := rfl
@[simp] theorem setMalformed_xh (s : State) : (setMalformed s).xh = s.xh := rfl
@[simp] theorem setMalformed_tp (s : State) : (setMalformed s).tp = s.tp := rfl
@[simp] theorem setMalformed_rem (s : State) : (setMalformed s).rem = s.rem := rfl
@[simp] theorem setMalformed_ph (s : State) : (setMalformed s).ph = s.ph := rfl
@[simp] theorem setMalformed_byte (s : State) : (setMalformed s).byte = s.byte := rfl
@[simp] theorem setMalformed_malformed (s : State) : (setMalformed s).malformed = true := rfl
@[simp] theorem setMalformed_gpio (s : State) : (setMalformed s).gpio = s.gpio := rfl
@[simp] theorem setMalformed_bus (s : State) : (setMalformed s).bus = s.bus := rfl
@[simp] theorem setMalformed_xfer (s : State) : (setMalformed s).xfer = s.xfer := rfl
@[simp] theorem setMalformed_mem (s : State) : (setMalformed s).mem = s.mem := rfl
@[simp] theorem setMalformed_tr (s : State) : (setMalformed s).tr = s.tr := rfl
@[simp] theorem setMalformed_rw (s : State) : (setMalformed s).rw = s.rw := rfl
@[simp] theorem setMalformed_calls (s : State) : (setMalformed s).calls = s.calls := rfl
@[simp] theorem setMalformed_result (s : State) : (setMalformed s).result = s.result := rfl
@[simp] theorem setMalformed_drawn (s : State) : (setMalformed s).drawn = s.drawn := rfl
@[simp] theorem setMalformed_agenda (s : State) : (setMalformed s).agenda = s.agenda := rfl

@[simp] theorem startShift_cfg (b : Byte) (s : State) : (startShift b s).cfg = s.cfg := rfl
@[simp] theorem startShift_ost (b : Byte) (s : State) : (startShift b s).ost = s.ost := rfl
@[simp] theorem startShift_sub (b : Byte) (s : State) : (startShift b s).sub = s.sub := rfl
@[simp] theorem startShift_bph (b : Byte) (s : State) : (startShift b s).bph = s.bph := rfl
@[simp] theorem startShift_midAction (b : Byte) (s : State) : (startShift b s).midAction = s.midAction := rfl
@[simp] theorem startShift_delayDone (b : Byte) (s : State) : (startShift b s).delayDone = s.delayDone := rfl
@[simp] theorem startShift_fbb (b : Byte) (s : State) : (startShift b s).fbb = s.fbb := rfl
@[simp] theorem startShift_bh (b : Byte) (s : State) : (startShift b s).bh = s.bh := rfl
@[simp] theorem startShift_xh (b : Byte) (s : State) : (startShift b s).xh = s.xh := rfl
@[simp] theorem startShift_tp (b : Byte) (s : State) : (startShift b s).tp = s.tp := rfl
@[simp] theorem startShift_rem (b : Byte) (s : State) : (startShift b s).rem = s.rem := rfl
@[simp] theorem startShift_ph (b : Byte) (s : State) : (startShift b s).ph = s.ph := rfl
@[simp] theorem startShift_byte (b : Byte) (s : State) : (startShift b s).byte = s.byte := rfl
@[simp] theorem startShift_malformed (b : Byte) (s : State) : (startShift b s).malformed = s.malformed := rfl
@[simp] theorem startShift_gpio (b : Byte) (s : State) : (startShift b s).gpio = s.gpio := rfl
@[simp] theorem startShift_bus (b : Byte) (s : State) : (startShift b s).bus = { s.bus with shift := b, ready := false } := rfl
@[simp] theorem startShift_xfer (b : Byte) (s : State) : (startShift b s).xfer = s.xfer := rfl
@[simp] theorem startShift_mem (b : Byte) (s : State) : (startShift b s).mem = s.mem := rfl
@[simp] theorem startShift_tr (b : Byte) (s : State) : (startShift b s).tr = s.tr ++ [.tx s.gpio.dc b] := rfl
@[simp] theorem startShift_rw (b : Byte) (s : State) : (startShift b s).rw = s.rw := rfl
@[simp] theorem startShift_calls (b : Byte) (s : State) : (startShift b s).calls = s.calls := rfl
@[simp] theorem startShift_result (b : Byte) (s : State) : (startShift b s).result = s.result := rfl
@[simp] theorem startShift_drawn (b : Byte) (s : State) : (startShift b s).drawn = s.drawn := rfl
@[simp] theorem startShift_agenda (b : Byte) (s : State) : (startShift b s).agenda = s.agenda := rfl

@[simp] theorem completeShift_cfg (s : State) : (completeShift s).cfg = s.cfg := rfl
@[simp] theorem completeShift_ost (s : State) : (completeShift s).ost = s.ost := rfl
@[simp] theorem completeShift_sub (s : State) : (completeShift s).sub = s.sub := rfl
@[simp] theorem completeShift_bph (s : State) : (completeShift s).bph = s.bph := rfl
@[simp] theorem completeShift_midAction (s : State) : (completeShift s).midAction = s.midAction := rfl
@[simp] theorem completeShift_delayDone (s : State) : (completeShift s).delayDone = s.delayDone := rfl
@[simp] theorem completeShift_fbb (s : State) : (completeShift s).fbb = s.fbb := rfl
@[simp] theorem completeShift_bh (s : State) : (completeShift s).bh = s.bh := rfl
@[simp] theorem completeShift_xh (s : State) : (completeShift s).xh = s.xh := rfl
@[simp] theorem completeShift_tp (s : State) : (completeShift s).tp = s.tp := rfl
@[simp] theorem completeShift_rem (s : State) : (completeShift s).rem = s.rem := rfl
@[simp] theorem completeShift_ph (s : State) : (completeShift s).ph = s.ph := rfl
@[simp] theorem completeShift_byte (s : State) : (completeShift s).byte = s.byte := rfl
@[simp] theorem completeShift_malformed (s : State) : (completeShift s).malformed = s.malformed := rfl
@[simp] theorem completeShift_gpio (s : State) : (completeShift s).gpio = s.gpio := rfl
@[simp] theorem completeShift_bus (s : State) : (completeShift s).bus = { s.bus with dat := Config.freeByte s.drawn, ready := true } := rfl
@[simp] theorem completeShift_xfer (s : State) : (completeShift s).xfer = s.xfer := rfl
@[simp] theorem completeShift_mem (s : State) : (completeShift s).mem = s.mem := rfl
@[simp] theorem completeShift_tr (s : State) : (completeShift s).tr = s.tr := rfl
@[simp] theorem completeShift_rw (s : State) : (completeShift s).rw = s.rw := rfl
@[simp] theorem completeShift_calls (s : State) : (completeShift s).calls = s.calls := rfl
@[simp] theorem completeShift_result (s : State) : (completeShift s).result = s.result := rfl
@[simp] theorem completeShift_drawn (s : State) : (completeShift s).drawn = s.drawn + 1 := rfl
@[simp] theorem completeShift_agenda (s : State) : (completeShift s).agenda = s.agenda := rfl

@[simp] theorem rearmShift_cfg (s : State) : (rearmShift s).cfg = s.cfg := rfl
@[simp] theorem rearmShift_ost (s : State) : (rearmShift s).ost = s.ost := rfl
@[simp] theorem rearmShift_sub (s : State) : (rearmShift s).sub = s.sub := rfl
@[simp] theorem rearmShift_bph (s : State) : (rearmShift s).bph = s.bph := rfl
@[simp] theorem rearmShift_midAction (s : State) : (rearmShift s).midAction = s.midAction := rfl
@[simp] theorem rearmShift_delayDone (s : State) : (rearmShift s).delayDone = s.delayDone := rfl
@[simp] theorem rearmShift_fbb (s : State) : (rearmShift s).fbb = s.fbb := rfl
@[simp] theorem rearmShift_bh (s : State) : (rearmShift s).bh = s.bh := rfl
@[simp] theorem rearmShift_xh (s : State) : (rearmShift s).xh = s.xh := rfl
@[simp] theorem rearmShift_tp (s : State) : (rearmShift s).tp = s.tp := rfl
@[simp] theorem rearmShift_rem (s : State) : (rearmShift s).rem = s.rem := rfl
@[simp] theorem rearmShift_ph (s : State) : (rearmShift s).ph = s.ph := rfl
@[simp] theorem rearmShift_byte (s : State) : (rearmShift s).byte = s.byte := rfl
@[simp] theorem rearmShift_malformed (s : State) : (rearmShift s).malformed = s.malformed := rfl
@[simp] theorem rearmShift_gpio (s : State) : (rearmShift s).gpio = s.gpio := rfl
@[simp] theorem rearmShift_bus (s : State) : (rearmShift s).bus = { s.bus with ready := true } := rfl
@[simp] theorem rearmShift_xfer (s : State) : (rearmShift s).xfer = s.xfer := rfl
@[simp] theorem rearmShift_mem (s : State) : (rearmShift s).mem = s.mem := rfl
@[simp] theorem rearmShift_tr (s : State) : (rearmShift s).tr = s.tr := rfl
@[simp] theorem rearmShift_rw (s : State) : (rearmShift s).rw = s.rw := rfl
@[simp] theorem rearmShift_calls (s : State) : (rearmShift s).calls = s.calls := rfl
@[simp] theorem rearmShift_result (s : State) : (rearmShift s).result = s.result := rfl
@[simp] theorem rearmShift_drawn (s : State) : (rearmShift s).drawn = s.drawn := rfl
@[simp] theorem rearmShift_agenda (s : State) : (rearmShift s).agenda = s.agenda := rfl

@[simp] theorem delay_cfg (n : Nat) (s : State) : (delay n s).cfg = s.cfg := rfl
@[simp] theorem delay_ost (n : Nat) (s : State) : (delay n s).ost = s.ost := rfl
@[simp] theorem delay_sub (n : Nat) (s : State) : (delay n s).sub = s.sub := rfl
@[simp] theorem delay_bph (n : Nat) (s : State) : (delay n s).bph = s.bph := rfl
@[simp] theorem delay_midAction (n : Nat) (s : State) : (delay n s).midAction = s.midAction := rfl
@[simp] theorem delay_delayDone (n : Nat) (s : State) : (delay n s).delayDone = false := rfl
@[simp] theorem delay_fbb (n : Nat) (s : State) : (delay n s).fbb = s.fbb := rfl
@[simp] theorem delay_bh (n : Nat) (s : State) : (delay n s).bh = s.bh := rfl
@[simp] theorem delay_xh (n : Nat) (s : State) : (delay n s).xh = s.xh := rfl
@[simp] theorem delay_tp (n : Nat) (s : State) : (delay n s).tp = s.tp := rfl
@[simp] theorem delay_rem (n : Nat) (s : State) : (delay n s).rem = s.rem := rfl
@[simp] theorem delay_ph (n : Nat) (s : State) : (delay n s).ph = s.ph := rfl
@[simp] theorem delay_byte (n : Nat) (s : State) : (delay n s).byte = s.byte := rfl
@[simp] theorem delay_malformed (n : Nat) (s : State) : (delay n s).malformed = s.malformed := rfl
@[simp] theorem delay_gpio (n : Nat) (s : State) : (delay n s).gpio = s.gpio := rfl
@[simp] theorem delay_bus (n : Nat) (s : State) : (delay n s).bus = s.bus := rfl
@[simp] theorem delay_xfer (n : Nat) (s : State) : (delay n s).xfer = s.xfer := rfl
@[simp] theorem delay_mem (n : Nat) (s : State) : (delay n s).mem = s.mem := rfl
@[simp] theorem delay_tr (n : Nat) (s : State) : (delay n s).tr = s.tr ++ [.wait n] := rfl
@[simp] theorem delay_rw (n : Nat) (s : State) : (delay n s).rw = s.rw := rfl
@[simp] theorem delay_calls (n : Nat) (s : State) : (delay n s).calls = s.calls := rfl
@[simp] theorem delay_result (n : Nat) (s : State) : (delay n s).result = s.result := rfl
@[simp] theorem delay_drawn (n : Nat) (s : State) : (delay n s).drawn = s.drawn := rfl
@[simp] theorem delay_agenda (n : Nat) (s : State) : (delay n s).agenda = s.agenda := rfl

@[simp] theorem answerDelay_cfg (s : State) : (answerDelay s).cfg = s.cfg := by unfold answerDelay; split <;> rfl
@[simp] theorem answerDelay_ost (s : State) : (answerDelay s).ost = s.ost := by unfold answerDelay; split <;> rfl
@[simp] theorem answerDelay_sub (s : State) : (answerDelay s).sub = s.sub := by unfold answerDelay; split <;> rfl
@[simp] theorem answerDelay_bph (s : State) : (answerDelay s).bph = s.bph := by unfold answerDelay; split <;> rfl
@[simp] theorem answerDelay_midAction (s : State) : (answerDelay s).midAction = s.midAction := by unfold answerDelay; split <;> rfl
@[simp] theorem answerDelay_fbb (s : State) : (answerDelay s).fbb = s.fbb := by unfold answerDelay; split <;> rfl
@[simp] theorem answerDelay_bh (s : State) : (answerDelay s).bh = s.bh := by unfold answerDelay; split <;> rfl
@[simp] theorem answerDelay_xh (s : State) : (answerDelay s).xh = s.xh := by unfold answerDelay; split <;> rfl
@[simp] theorem answerDelay_tp (s : State) : (answerDelay s).tp = s.tp := by unfold answerDelay; split <;> rfl
@[simp] theorem answerDelay_rem (s : State) : (answerDelay s).rem = s.rem := by unfold answerDelay; split <;> rfl
@[simp] theorem answerDelay_ph (s : State) : (answerDelay s).ph = s.ph := by unfold answerDelay; split <;> rfl
@[simp] theorem answerDelay_byte (s : State) : (answerDelay s).byte = s.byte := by unfold answerDelay; split <;> rfl
@[simp] theorem answerDelay_malformed (s : State) : (answerDelay s).malformed = s.malformed := by unfold answerDelay; split <;> rfl
@[simp] theorem answerDelay_gpio (s : State) : (answerDelay s).gpio = s.gpio := by unfold answerDelay; split <;> rfl
@[simp] theorem answerDelay_bus (s : State) : (answerDelay s).bus = s.bus := by unfold answerDelay; split <;> rfl
@[simp] theorem answerDelay_xfer (s : State) : (answerDelay s).xfer = s.xfer := by unfold answerDelay; split <;> rfl
@[simp] theorem answerDelay_mem (s : State) : (answerDelay s).mem = s.mem := by unfold answerDelay; split <;> rfl
@[simp] theorem answerDelay_tr (s : State) : (answerDelay s).tr = s.tr := by unfold answerDelay; split <;> rfl
@[simp] theorem answerDelay_rw (s : State) : (answerDelay s).rw = s.rw := by unfold answerDelay; split <;> rfl
@[simp] theorem answerDelay_calls (s : State) : (answerDelay s).calls = s.calls := by unfold answerDelay; split <;> rfl
@[simp] theorem answerDelay_result (s : State) : (answerDelay s).result = s.result := by unfold answerDelay; split <;> rfl
@[simp] theorem answerDelay_drawn (s : State) : (answerDelay s).drawn = s.drawn := by unfold answerDelay; split <;> rfl
@[simp] theorem answerDelay_agenda (s : State) : (answerDelay s).agenda = s.agenda := by unfold answerDelay; split <;> rfl

@[simp] theorem countAction_cfg (s : State) : (countAction s).cfg = s.cfg := rfl
@[simp] theorem countAction_ost (s : State) : (countAction s).ost = s.ost := rfl
@[simp] theorem countAction_sub (s : State) : (countAction s).sub = s.sub + 1#2 := rfl
@[simp] theorem countAction_bph (s : State) : (countAction s).bph = s.bph := rfl
@[simp] theorem countAction_midAction (s : State) : (countAction s).midAction = s.midAction := rfl
@[simp] theorem countAction_delayDone (s : State) : (countAction s).delayDone = s.delayDone := rfl
@[simp] theorem countAction_fbb (s : State) : (countAction s).fbb = s.fbb := rfl
@[simp] theorem countAction_bh (s : State) : (countAction s).bh = s.bh := rfl
@[simp] theorem countAction_xh (s : State) : (countAction s).xh = s.xh := rfl
@[simp] theorem countAction_tp (s : State) : (countAction s).tp = s.tp := rfl
@[simp] theorem countAction_rem (s : State) : (countAction s).rem = s.rem := rfl
@[simp] theorem countAction_ph (s : State) : (countAction s).ph = s.ph := rfl
@[simp] theorem countAction_byte (s : State) : (countAction s).byte = s.byte := rfl
@[simp] theorem countAction_malformed (s : State) : (countAction s).malformed = s.malformed := rfl
@[simp] theorem countAction_gpio (s : State) : (countAction s).gpio = s.gpio := rfl
@[simp] theorem countAction_bus (s : State) : (countAction s).bus = s.bus := rfl
@[simp] theorem countAction_xfer (s : State) : (countAction s).xfer = s.xfer := rfl
@[simp] theorem countAction_mem (s : State) : (countAction s).mem = s.mem := rfl
@[simp] theorem countAction_tr (s : State) : (countAction s).tr = s.tr := rfl
@[simp] theorem countAction_rw (s : State) : (countAction s).rw = s.rw := rfl
@[simp] theorem countAction_calls (s : State) : (countAction s).calls = s.calls := rfl
@[simp] theorem countAction_result (s : State) : (countAction s).result = s.result := rfl
@[simp] theorem countAction_drawn (s : State) : (countAction s).drawn = s.drawn := rfl
@[simp] theorem countAction_agenda (s : State) : (countAction s).agenda = s.agenda := rfl

@[simp] theorem enterStep_cfg (o : Ost) (s : State) : (enterStep o s).cfg = s.cfg := rfl
@[simp] theorem enterStep_ost (o : Ost) (s : State) : (enterStep o s).ost = o := rfl
@[simp] theorem enterStep_sub (o : Ost) (s : State) : (enterStep o s).sub = 0#2 := rfl
@[simp] theorem enterStep_bph (o : Ost) (s : State) : (enterStep o s).bph = s.bph := rfl
@[simp] theorem enterStep_midAction (o : Ost) (s : State) : (enterStep o s).midAction = s.midAction := rfl
@[simp] theorem enterStep_delayDone (o : Ost) (s : State) : (enterStep o s).delayDone = s.delayDone := rfl
@[simp] theorem enterStep_fbb (o : Ost) (s : State) : (enterStep o s).fbb = s.fbb := rfl
@[simp] theorem enterStep_bh (o : Ost) (s : State) : (enterStep o s).bh = s.bh := rfl
@[simp] theorem enterStep_xh (o : Ost) (s : State) : (enterStep o s).xh = s.xh := rfl
@[simp] theorem enterStep_tp (o : Ost) (s : State) : (enterStep o s).tp = s.tp := rfl
@[simp] theorem enterStep_rem (o : Ost) (s : State) : (enterStep o s).rem = s.rem := rfl
@[simp] theorem enterStep_ph (o : Ost) (s : State) : (enterStep o s).ph = s.ph := rfl
@[simp] theorem enterStep_byte (o : Ost) (s : State) : (enterStep o s).byte = s.byte := rfl
@[simp] theorem enterStep_malformed (o : Ost) (s : State) : (enterStep o s).malformed = s.malformed := rfl
@[simp] theorem enterStep_gpio (o : Ost) (s : State) : (enterStep o s).gpio = s.gpio := rfl
@[simp] theorem enterStep_bus (o : Ost) (s : State) : (enterStep o s).bus = s.bus := rfl
@[simp] theorem enterStep_xfer (o : Ost) (s : State) : (enterStep o s).xfer = s.xfer := rfl
@[simp] theorem enterStep_mem (o : Ost) (s : State) : (enterStep o s).mem = s.mem := rfl
@[simp] theorem enterStep_tr (o : Ost) (s : State) : (enterStep o s).tr = s.tr := rfl
@[simp] theorem enterStep_rw (o : Ost) (s : State) : (enterStep o s).rw = s.rw := rfl
@[simp] theorem enterStep_calls (o : Ost) (s : State) : (enterStep o s).calls = s.calls := rfl
@[simp] theorem enterStep_result (o : Ost) (s : State) : (enterStep o s).result = s.result := rfl
@[simp] theorem enterStep_drawn (o : Ost) (s : State) : (enterStep o s).drawn = s.drawn := rfl
@[simp] theorem enterStep_agenda (o : Ost) (s : State) : (enterStep o s).agenda = s.agenda := rfl

@[simp] theorem startPlay_cfg (s : State) : (startPlay s).cfg = s.cfg := rfl
@[simp] theorem startPlay_ost (s : State) : (startPlay s).ost = s.ost := rfl
@[simp] theorem startPlay_sub (s : State) : (startPlay s).sub = s.sub := rfl
@[simp] theorem startPlay_bph (s : State) : (startPlay s).bph = s.bph := rfl
@[simp] theorem startPlay_midAction (s : State) : (startPlay s).midAction = s.midAction := rfl
@[simp] theorem startPlay_delayDone (s : State) : (startPlay s).delayDone = s.delayDone := rfl
@[simp] theorem startPlay_fbb (s : State) : (startPlay s).fbb = s.fbb := rfl
@[simp] theorem startPlay_bh (s : State) : (startPlay s).bh = s.bh := rfl
@[simp] theorem startPlay_xh (s : State) : (startPlay s).xh = s.xh := rfl
@[simp] theorem startPlay_tp (s : State) : (startPlay s).tp = 0 := rfl
@[simp] theorem startPlay_rem (s : State) : (startPlay s).rem = s.rem := rfl
@[simp] theorem startPlay_ph (s : State) : (startPlay s).ph = .head := rfl
@[simp] theorem startPlay_byte (s : State) : (startPlay s).byte = s.byte := rfl
@[simp] theorem startPlay_malformed (s : State) : (startPlay s).malformed = s.malformed := rfl
@[simp] theorem startPlay_gpio (s : State) : (startPlay s).gpio = s.gpio := rfl
@[simp] theorem startPlay_bus (s : State) : (startPlay s).bus = s.bus := rfl
@[simp] theorem startPlay_xfer (s : State) : (startPlay s).xfer = s.xfer := rfl
@[simp] theorem startPlay_mem (s : State) : (startPlay s).mem = s.mem := rfl
@[simp] theorem startPlay_tr (s : State) : (startPlay s).tr = s.tr := rfl
@[simp] theorem startPlay_rw (s : State) : (startPlay s).rw = s.rw := rfl
@[simp] theorem startPlay_calls (s : State) : (startPlay s).calls = s.calls := rfl
@[simp] theorem startPlay_result (s : State) : (startPlay s).result = s.result := rfl
@[simp] theorem startPlay_drawn (s : State) : (startPlay s).drawn = s.drawn := rfl
@[simp] theorem startPlay_agenda (s : State) : (startPlay s).agenda = s.agenda := rfl

@[simp] theorem headerRead_cfg (tag len : Byte) (s : State) : (headerRead tag len s).cfg = s.cfg := rfl
@[simp] theorem headerRead_ost (tag len : Byte) (s : State) : (headerRead tag len s).ost = s.ost := rfl
@[simp] theorem headerRead_sub (tag len : Byte) (s : State) : (headerRead tag len s).sub = s.sub := rfl
@[simp] theorem headerRead_bph (tag len : Byte) (s : State) : (headerRead tag len s).bph = s.bph := rfl
@[simp] theorem headerRead_midAction (tag len : Byte) (s : State) : (headerRead tag len s).midAction = s.midAction := rfl
@[simp] theorem headerRead_delayDone (tag len : Byte) (s : State) : (headerRead tag len s).delayDone = s.delayDone := rfl
@[simp] theorem headerRead_fbb (tag len : Byte) (s : State) : (headerRead tag len s).fbb = s.fbb := rfl
@[simp] theorem headerRead_bh (tag len : Byte) (s : State) : (headerRead tag len s).bh = s.bh := rfl
@[simp] theorem headerRead_xh (tag len : Byte) (s : State) : (headerRead tag len s).xh = s.xh := rfl
@[simp] theorem headerRead_tp (tag len : Byte) (s : State) : (headerRead tag len s).tp = s.tp + 2 := rfl
@[simp] theorem headerRead_rem (tag len : Byte) (s : State) : (headerRead tag len s).rem = len := rfl
@[simp] theorem headerRead_ph (tag len : Byte) (s : State) : (headerRead tag len s).ph = .cmd := rfl
@[simp] theorem headerRead_byte (tag len : Byte) (s : State) : (headerRead tag len s).byte = tag := rfl
@[simp] theorem headerRead_malformed (tag len : Byte) (s : State) : (headerRead tag len s).malformed = s.malformed := rfl
@[simp] theorem headerRead_gpio (tag len : Byte) (s : State) : (headerRead tag len s).gpio = s.gpio := rfl
@[simp] theorem headerRead_bus (tag len : Byte) (s : State) : (headerRead tag len s).bus = s.bus := rfl
@[simp] theorem headerRead_xfer (tag len : Byte) (s : State) : (headerRead tag len s).xfer = s.xfer := rfl
@[simp] theorem headerRead_mem (tag len : Byte) (s : State) : (headerRead tag len s).mem = s.mem := rfl
@[simp] theorem headerRead_tr (tag len : Byte) (s : State) : (headerRead tag len s).tr = s.tr := rfl
@[simp] theorem headerRead_rw (tag len : Byte) (s : State) : (headerRead tag len s).rw = s.rw := rfl
@[simp] theorem headerRead_calls (tag len : Byte) (s : State) : (headerRead tag len s).calls = s.calls := rfl
@[simp] theorem headerRead_result (tag len : Byte) (s : State) : (headerRead tag len s).result = s.result := rfl
@[simp] theorem headerRead_drawn (tag len : Byte) (s : State) : (headerRead tag len s).drawn = s.drawn := rfl
@[simp] theorem headerRead_agenda (tag len : Byte) (s : State) : (headerRead tag len s).agenda = s.agenda := rfl

@[simp] theorem parameterRead_cfg (b : Byte) (s : State) : (parameterRead b s).cfg = s.cfg := rfl
@[simp] theorem parameterRead_ost (b : Byte) (s : State) : (parameterRead b s).ost = s.ost := rfl
@[simp] theorem parameterRead_sub (b : Byte) (s : State) : (parameterRead b s).sub = s.sub := rfl
@[simp] theorem parameterRead_bph (b : Byte) (s : State) : (parameterRead b s).bph = s.bph := rfl
@[simp] theorem parameterRead_midAction (b : Byte) (s : State) : (parameterRead b s).midAction = s.midAction := rfl
@[simp] theorem parameterRead_delayDone (b : Byte) (s : State) : (parameterRead b s).delayDone = s.delayDone := rfl
@[simp] theorem parameterRead_fbb (b : Byte) (s : State) : (parameterRead b s).fbb = s.fbb := rfl
@[simp] theorem parameterRead_bh (b : Byte) (s : State) : (parameterRead b s).bh = s.bh := rfl
@[simp] theorem parameterRead_xh (b : Byte) (s : State) : (parameterRead b s).xh = s.xh := rfl
@[simp] theorem parameterRead_tp (b : Byte) (s : State) : (parameterRead b s).tp = s.tp + 1 := rfl
@[simp] theorem parameterRead_rem (b : Byte) (s : State) : (parameterRead b s).rem = s.rem - 1#8 := rfl
@[simp] theorem parameterRead_ph (b : Byte) (s : State) : (parameterRead b s).ph = s.ph := rfl
@[simp] theorem parameterRead_byte (b : Byte) (s : State) : (parameterRead b s).byte = b := rfl
@[simp] theorem parameterRead_malformed (b : Byte) (s : State) : (parameterRead b s).malformed = s.malformed := rfl
@[simp] theorem parameterRead_gpio (b : Byte) (s : State) : (parameterRead b s).gpio = s.gpio := rfl
@[simp] theorem parameterRead_bus (b : Byte) (s : State) : (parameterRead b s).bus = s.bus := rfl
@[simp] theorem parameterRead_xfer (b : Byte) (s : State) : (parameterRead b s).xfer = s.xfer := rfl
@[simp] theorem parameterRead_mem (b : Byte) (s : State) : (parameterRead b s).mem = s.mem := rfl
@[simp] theorem parameterRead_tr (b : Byte) (s : State) : (parameterRead b s).tr = s.tr := rfl
@[simp] theorem parameterRead_rw (b : Byte) (s : State) : (parameterRead b s).rw = s.rw := rfl
@[simp] theorem parameterRead_calls (b : Byte) (s : State) : (parameterRead b s).calls = s.calls := rfl
@[simp] theorem parameterRead_result (b : Byte) (s : State) : (parameterRead b s).result = s.result := rfl
@[simp] theorem parameterRead_drawn (b : Byte) (s : State) : (parameterRead b s).drawn = s.drawn := rfl
@[simp] theorem parameterRead_agenda (b : Byte) (s : State) : (parameterRead b s).agenda = s.agenda := rfl

@[simp] theorem gpioOutput_cfg (line : Line) (s : State) : (gpioOutput line s).cfg = s.cfg := by cases line <;> rfl
@[simp] theorem gpioOutput_ost (line : Line) (s : State) : (gpioOutput line s).ost = s.ost := by cases line <;> rfl
@[simp] theorem gpioOutput_sub (line : Line) (s : State) : (gpioOutput line s).sub = s.sub := by cases line <;> rfl
@[simp] theorem gpioOutput_bph (line : Line) (s : State) : (gpioOutput line s).bph = s.bph := by cases line <;> rfl
@[simp] theorem gpioOutput_midAction (line : Line) (s : State) : (gpioOutput line s).midAction = s.midAction := by cases line <;> rfl
@[simp] theorem gpioOutput_delayDone (line : Line) (s : State) : (gpioOutput line s).delayDone = s.delayDone := by cases line <;> rfl
@[simp] theorem gpioOutput_fbb (line : Line) (s : State) : (gpioOutput line s).fbb = s.fbb := by cases line <;> rfl
@[simp] theorem gpioOutput_bh (line : Line) (s : State) : (gpioOutput line s).bh = s.bh := by cases line <;> rfl
@[simp] theorem gpioOutput_xh (line : Line) (s : State) : (gpioOutput line s).xh = s.xh := by cases line <;> rfl
@[simp] theorem gpioOutput_tp (line : Line) (s : State) : (gpioOutput line s).tp = s.tp := by cases line <;> rfl
@[simp] theorem gpioOutput_rem (line : Line) (s : State) : (gpioOutput line s).rem = s.rem := by cases line <;> rfl
@[simp] theorem gpioOutput_ph (line : Line) (s : State) : (gpioOutput line s).ph = s.ph := by cases line <;> rfl
@[simp] theorem gpioOutput_byte (line : Line) (s : State) : (gpioOutput line s).byte = s.byte := by cases line <;> rfl
@[simp] theorem gpioOutput_malformed (line : Line) (s : State) : (gpioOutput line s).malformed = s.malformed := by cases line <;> rfl
@[simp] theorem gpioOutput_bus (line : Line) (s : State) : (gpioOutput line s).bus = s.bus := by cases line <;> rfl
@[simp] theorem gpioOutput_xfer (line : Line) (s : State) : (gpioOutput line s).xfer = s.xfer := by cases line <;> rfl
@[simp] theorem gpioOutput_mem (line : Line) (s : State) : (gpioOutput line s).mem = s.mem := by cases line <;> rfl
@[simp] theorem gpioOutput_tr (line : Line) (s : State) : (gpioOutput line s).tr = s.tr ++ [.dir line] := by cases line <;> rfl
@[simp] theorem gpioOutput_rw (line : Line) (s : State) : (gpioOutput line s).rw = s.rw := by cases line <;> rfl
@[simp] theorem gpioOutput_calls (line : Line) (s : State) : (gpioOutput line s).calls = s.calls := by cases line <;> rfl
@[simp] theorem gpioOutput_result (line : Line) (s : State) : (gpioOutput line s).result = s.result := by cases line <;> rfl
@[simp] theorem gpioOutput_drawn (line : Line) (s : State) : (gpioOutput line s).drawn = s.drawn := by cases line <;> rfl
@[simp] theorem gpioOutput_agenda (line : Line) (s : State) : (gpioOutput line s).agenda = s.agenda := by cases line <;> rfl

@[simp] theorem gpioSet_cfg (line : Line) (level : Bool) (s : State) : (gpioSet line level s).cfg = s.cfg := by cases line <;> rfl
@[simp] theorem gpioSet_ost (line : Line) (level : Bool) (s : State) : (gpioSet line level s).ost = s.ost := by cases line <;> rfl
@[simp] theorem gpioSet_sub (line : Line) (level : Bool) (s : State) : (gpioSet line level s).sub = s.sub := by cases line <;> rfl
@[simp] theorem gpioSet_bph (line : Line) (level : Bool) (s : State) : (gpioSet line level s).bph = s.bph := by cases line <;> rfl
@[simp] theorem gpioSet_midAction (line : Line) (level : Bool) (s : State) : (gpioSet line level s).midAction = s.midAction := by cases line <;> rfl
@[simp] theorem gpioSet_delayDone (line : Line) (level : Bool) (s : State) : (gpioSet line level s).delayDone = s.delayDone := by cases line <;> rfl
@[simp] theorem gpioSet_fbb (line : Line) (level : Bool) (s : State) : (gpioSet line level s).fbb = s.fbb := by cases line <;> rfl
@[simp] theorem gpioSet_bh (line : Line) (level : Bool) (s : State) : (gpioSet line level s).bh = s.bh := by cases line <;> rfl
@[simp] theorem gpioSet_xh (line : Line) (level : Bool) (s : State) : (gpioSet line level s).xh = s.xh := by cases line <;> rfl
@[simp] theorem gpioSet_tp (line : Line) (level : Bool) (s : State) : (gpioSet line level s).tp = s.tp := by cases line <;> rfl
@[simp] theorem gpioSet_rem (line : Line) (level : Bool) (s : State) : (gpioSet line level s).rem = s.rem := by cases line <;> rfl
@[simp] theorem gpioSet_ph (line : Line) (level : Bool) (s : State) : (gpioSet line level s).ph = s.ph := by cases line <;> rfl
@[simp] theorem gpioSet_byte (line : Line) (level : Bool) (s : State) : (gpioSet line level s).byte = s.byte := by cases line <;> rfl
@[simp] theorem gpioSet_malformed (line : Line) (level : Bool) (s : State) : (gpioSet line level s).malformed = s.malformed := by cases line <;> rfl
@[simp] theorem gpioSet_bus (line : Line) (level : Bool) (s : State) : (gpioSet line level s).bus = s.bus := by cases line <;> rfl
@[simp] theorem gpioSet_xfer (line : Line) (level : Bool) (s : State) : (gpioSet line level s).xfer = s.xfer := by cases line <;> rfl
@[simp] theorem gpioSet_mem (line : Line) (level : Bool) (s : State) : (gpioSet line level s).mem = s.mem := by cases line <;> rfl
@[simp] theorem gpioSet_rw (line : Line) (level : Bool) (s : State) : (gpioSet line level s).rw = s.rw := by cases line <;> rfl
@[simp] theorem gpioSet_calls (line : Line) (level : Bool) (s : State) : (gpioSet line level s).calls = s.calls := by cases line <;> rfl
@[simp] theorem gpioSet_result (line : Line) (level : Bool) (s : State) : (gpioSet line level s).result = s.result := by cases line <;> rfl
@[simp] theorem gpioSet_drawn (line : Line) (level : Bool) (s : State) : (gpioSet line level s).drawn = s.drawn := by cases line <;> rfl
@[simp] theorem gpioSet_agenda (line : Line) (level : Bool) (s : State) : (gpioSet line level s).agenda = s.agenda := by cases line <;> rfl

@[simp] theorem storeBusCon_cfg (v : Byte) (s : State) : (storeBusCon v s).cfg = s.cfg := by unfold storeBusCon; split <;> rfl
@[simp] theorem storeBusCon_ost (v : Byte) (s : State) : (storeBusCon v s).ost = s.ost := by unfold storeBusCon; split <;> rfl
@[simp] theorem storeBusCon_sub (v : Byte) (s : State) : (storeBusCon v s).sub = s.sub := by unfold storeBusCon; split <;> rfl
@[simp] theorem storeBusCon_bph (v : Byte) (s : State) : (storeBusCon v s).bph = s.bph := by unfold storeBusCon; split <;> rfl
@[simp] theorem storeBusCon_midAction (v : Byte) (s : State) : (storeBusCon v s).midAction = s.midAction := by unfold storeBusCon; split <;> rfl
@[simp] theorem storeBusCon_delayDone (v : Byte) (s : State) : (storeBusCon v s).delayDone = s.delayDone := by unfold storeBusCon; split <;> rfl
@[simp] theorem storeBusCon_fbb (v : Byte) (s : State) : (storeBusCon v s).fbb = s.fbb := by unfold storeBusCon; split <;> rfl
@[simp] theorem storeBusCon_bh (v : Byte) (s : State) : (storeBusCon v s).bh = s.bh := by unfold storeBusCon; split <;> rfl
@[simp] theorem storeBusCon_xh (v : Byte) (s : State) : (storeBusCon v s).xh = s.xh := by unfold storeBusCon; split <;> rfl
@[simp] theorem storeBusCon_tp (v : Byte) (s : State) : (storeBusCon v s).tp = s.tp := by unfold storeBusCon; split <;> rfl
@[simp] theorem storeBusCon_rem (v : Byte) (s : State) : (storeBusCon v s).rem = s.rem := by unfold storeBusCon; split <;> rfl
@[simp] theorem storeBusCon_ph (v : Byte) (s : State) : (storeBusCon v s).ph = s.ph := by unfold storeBusCon; split <;> rfl
@[simp] theorem storeBusCon_byte (v : Byte) (s : State) : (storeBusCon v s).byte = s.byte := by unfold storeBusCon; split <;> rfl
@[simp] theorem storeBusCon_malformed (v : Byte) (s : State) : (storeBusCon v s).malformed = s.malformed := by unfold storeBusCon; split <;> rfl
@[simp] theorem storeBusCon_gpio (v : Byte) (s : State) : (storeBusCon v s).gpio = s.gpio := by unfold storeBusCon; split <;> rfl
@[simp] theorem storeBusCon_xfer (v : Byte) (s : State) : (storeBusCon v s).xfer = s.xfer := by unfold storeBusCon; split <;> rfl
@[simp] theorem storeBusCon_mem (v : Byte) (s : State) : (storeBusCon v s).mem = s.mem := by unfold storeBusCon; split <;> rfl
@[simp] theorem storeBusCon_tr (v : Byte) (s : State) : (storeBusCon v s).tr = s.tr := by unfold storeBusCon; split <;> rfl
@[simp] theorem storeBusCon_rw (v : Byte) (s : State) : (storeBusCon v s).rw = s.rw := by unfold storeBusCon; split <;> rfl
@[simp] theorem storeBusCon_calls (v : Byte) (s : State) : (storeBusCon v s).calls = s.calls := by unfold storeBusCon; split <;> rfl
@[simp] theorem storeBusCon_result (v : Byte) (s : State) : (storeBusCon v s).result = s.result := by unfold storeBusCon; split <;> rfl
@[simp] theorem storeBusCon_drawn (v : Byte) (s : State) : (storeBusCon v s).drawn = s.drawn := by unfold storeBusCon; split <;> rfl
@[simp] theorem storeBusCon_agenda (v : Byte) (s : State) : (storeBusCon v s).agenda = s.agenda := by unfold storeBusCon; split <;> rfl

@[simp] theorem storeReg_cfg (w : RegW) (s : State) : (storeReg w s).cfg = s.cfg := by cases w <;> simp [storeReg]
@[simp] theorem storeReg_ost (w : RegW) (s : State) : (storeReg w s).ost = s.ost := by cases w <;> simp [storeReg]
@[simp] theorem storeReg_sub (w : RegW) (s : State) : (storeReg w s).sub = s.sub := by cases w <;> simp [storeReg]
@[simp] theorem storeReg_bph (w : RegW) (s : State) : (storeReg w s).bph = s.bph := by cases w <;> simp [storeReg]
@[simp] theorem storeReg_midAction (w : RegW) (s : State) : (storeReg w s).midAction = s.midAction := by cases w <;> simp [storeReg]
@[simp] theorem storeReg_delayDone (w : RegW) (s : State) : (storeReg w s).delayDone = s.delayDone := by cases w <;> simp [storeReg]
@[simp] theorem storeReg_fbb (w : RegW) (s : State) : (storeReg w s).fbb = s.fbb := by cases w <;> simp [storeReg]
@[simp] theorem storeReg_bh (w : RegW) (s : State) : (storeReg w s).bh = s.bh := by cases w <;> simp [storeReg]
@[simp] theorem storeReg_xh (w : RegW) (s : State) : (storeReg w s).xh = s.xh := by cases w <;> simp [storeReg]
@[simp] theorem storeReg_tp (w : RegW) (s : State) : (storeReg w s).tp = s.tp := by cases w <;> simp [storeReg]
@[simp] theorem storeReg_rem (w : RegW) (s : State) : (storeReg w s).rem = s.rem := by cases w <;> simp [storeReg]
@[simp] theorem storeReg_ph (w : RegW) (s : State) : (storeReg w s).ph = s.ph := by cases w <;> simp [storeReg]
@[simp] theorem storeReg_byte (w : RegW) (s : State) : (storeReg w s).byte = s.byte := by cases w <;> simp [storeReg]
@[simp] theorem storeReg_malformed (w : RegW) (s : State) : (storeReg w s).malformed = s.malformed := by cases w <;> simp [storeReg]
@[simp] theorem storeReg_gpio (w : RegW) (s : State) : (storeReg w s).gpio = s.gpio := by cases w <;> simp [storeReg]
@[simp] theorem storeReg_mem (w : RegW) (s : State) : (storeReg w s).mem = s.mem := by cases w <;> simp [storeReg]
@[simp] theorem storeReg_rw (w : RegW) (s : State) : (storeReg w s).rw = s.rw := by cases w <;> simp [storeReg]
@[simp] theorem storeReg_calls (w : RegW) (s : State) : (storeReg w s).calls = s.calls := by cases w <;> simp [storeReg]
@[simp] theorem storeReg_result (w : RegW) (s : State) : (storeReg w s).result = s.result := by cases w <;> simp [storeReg]
@[simp] theorem storeReg_drawn (w : RegW) (s : State) : (storeReg w s).drawn = s.drawn := by cases w <;> simp [storeReg]
@[simp] theorem storeReg_agenda (w : RegW) (s : State) : (storeReg w s).agenda = s.agenda := by cases w <;> simp [storeReg]

@[simp] theorem regWrite_cfg (w : RegW) (s : State) : (regWrite w s).cfg = s.cfg := by simp [regWrite]
@[simp] theorem regWrite_ost (w : RegW) (s : State) : (regWrite w s).ost = s.ost := by simp [regWrite]
@[simp] theorem regWrite_sub (w : RegW) (s : State) : (regWrite w s).sub = s.sub := by simp [regWrite]
@[simp] theorem regWrite_bph (w : RegW) (s : State) : (regWrite w s).bph = s.bph := by simp [regWrite]
@[simp] theorem regWrite_midAction (w : RegW) (s : State) : (regWrite w s).midAction = s.midAction := by simp [regWrite]
@[simp] theorem regWrite_delayDone (w : RegW) (s : State) : (regWrite w s).delayDone = s.delayDone := by simp [regWrite]
@[simp] theorem regWrite_fbb (w : RegW) (s : State) : (regWrite w s).fbb = s.fbb := by simp [regWrite]
@[simp] theorem regWrite_bh (w : RegW) (s : State) : (regWrite w s).bh = s.bh := by simp [regWrite]
@[simp] theorem regWrite_xh (w : RegW) (s : State) : (regWrite w s).xh = s.xh := by simp [regWrite]
@[simp] theorem regWrite_tp (w : RegW) (s : State) : (regWrite w s).tp = s.tp := by simp [regWrite]
@[simp] theorem regWrite_rem (w : RegW) (s : State) : (regWrite w s).rem = s.rem := by simp [regWrite]
@[simp] theorem regWrite_ph (w : RegW) (s : State) : (regWrite w s).ph = s.ph := by simp [regWrite]
@[simp] theorem regWrite_byte (w : RegW) (s : State) : (regWrite w s).byte = s.byte := by simp [regWrite]
@[simp] theorem regWrite_malformed (w : RegW) (s : State) : (regWrite w s).malformed = s.malformed := by simp [regWrite]
@[simp] theorem regWrite_gpio (w : RegW) (s : State) : (regWrite w s).gpio = s.gpio := by simp [regWrite]
@[simp] theorem regWrite_mem (w : RegW) (s : State) : (regWrite w s).mem = s.mem := by simp [regWrite]
@[simp] theorem regWrite_rw (w : RegW) (s : State) : (regWrite w s).rw = s.rw ++ [w] := by simp [regWrite]
@[simp] theorem regWrite_calls (w : RegW) (s : State) : (regWrite w s).calls = s.calls := by simp [regWrite]
@[simp] theorem regWrite_result (w : RegW) (s : State) : (regWrite w s).result = s.result := by simp [regWrite]
@[simp] theorem regWrite_drawn (w : RegW) (s : State) : (regWrite w s).drawn = s.drawn := by simp [regWrite]
@[simp] theorem regWrite_agenda (w : RegW) (s : State) : (regWrite w s).agenda = s.agenda := by simp [regWrite]

@[simp] theorem gpioOutput_gpio_rst (s : State) : (gpioOutput .rst s).gpio = { s.gpio with rstOe := true } := rfl
@[simp] theorem gpioOutput_gpio_dc (s : State) : (gpioOutput .dc s).gpio = { s.gpio with dcOe := true } := rfl
@[simp] theorem gpioSet_gpio_rst (l : Bool) (s : State) : (gpioSet .rst l s).gpio = { s.gpio with rst := l } := rfl
@[simp] theorem gpioSet_gpio_dc (l : Bool) (s : State) : (gpioSet .dc l s).gpio = { s.gpio with dc := l } := rfl
@[simp] theorem gpioSet_tr_rst (l : Bool) (s : State) : (gpioSet .rst l s).tr = s.tr ++ [.rst l] := rfl
@[simp] theorem gpioSet_tr_dc (l : Bool) (s : State) : (gpioSet .dc l s).tr = s.tr ++ [.dc l] := rfl

/-- A write of 0 to `BUS.CON` re-arms the shifter (10_state.md rule R21). -/
@[simp] theorem regWrite_busCon_zero_bus (s : State) : (regWrite (.busCon 0#8) s).bus = { s.bus with con := 0#8, ready := true } := rfl

/-- Another write of `BUS.CON` only stores. -/
theorem regWrite_busCon_bus (v : Byte) (h : v ≠ 0#8) (s : State) : (regWrite (.busCon v) s).bus = { s.bus with con := v } := by
  simp only [regWrite, storeReg, storeBusCon]
  rw [if_neg h]

/-- Whatever is written to `BUS.CON`, an idle bus stays idle. -/
theorem regWrite_busCon_ready (v : Byte) (s : State) (h : s.bus.ready = true) :
    (regWrite (.busCon v) s).bus = { s.bus with con := v } := by
  by_cases hv : v = 0#8
  · subst hv; simp [h]
  · exact regWrite_busCon_bus v hv s

@[simp] theorem regWrite_busCon_xfer (v : Byte) (s : State) : (regWrite (.busCon v) s).xfer = s.xfer := by
  simp only [regWrite, storeReg, storeBusCon]; split <;> rfl
@[simp] theorem regWrite_busCon_tr (v : Byte) (s : State) : (regWrite (.busCon v) s).tr = s.tr := by
  simp only [regWrite, storeReg, storeBusCon]; split <;> rfl
@[simp] theorem regWrite_busDat_bus (v : Byte) (s : State) :
    (regWrite (.busDat v) s).bus = { s.bus with shift := v, ready := false } := rfl
@[simp] theorem regWrite_busDat_xfer (v : Byte) (s : State) : (regWrite (.busDat v) s).xfer = s.xfer := rfl
@[simp] theorem regWrite_busDat_tr (v : Byte) (s : State) : (regWrite (.busDat v) s).tr = s.tr ++ [.tx s.gpio.dc v] := rfl
@[simp] theorem regWrite_busPre_bus (v : Byte) (s : State) : (regWrite (.busPre v) s).bus = { s.bus with pre := v } := rfl
@[simp] theorem regWrite_busPre_xfer (v : Byte) (s : State) : (regWrite (.busPre v) s).xfer = s.xfer := rfl
@[simp] theorem regWrite_busPre_tr (v : Byte) (s : State) : (regWrite (.busPre v) s).tr = s.tr := rfl

@[simp] theorem regWrite_xferSrc_bus (v : Word) (s : State) : (regWrite (.xferSrc v) s).bus = s.bus := rfl
@[simp] theorem regWrite_xferSrc_tr (v : Word) (s : State) : (regWrite (.xferSrc v) s).tr = s.tr := rfl
@[simp] theorem regWrite_xferSrc_xfer (v : Word) (s : State) : (regWrite (.xferSrc v) s).xfer = { s.xfer with src := v } := rfl
@[simp] theorem regWrite_xferSrcc_bus (v : Word) (s : State) : (regWrite (.xferSrcc v) s).bus = s.bus := rfl
@[simp] theorem regWrite_xferSrcc_tr (v : Word) (s : State) : (regWrite (.xferSrcc v) s).tr = s.tr := rfl
@[simp] theorem regWrite_xferSrcc_xfer (v : Word) (s : State) : (regWrite (.xferSrcc v) s).xfer = { s.xfer with srcc := v } := rfl
@[simp] theorem regWrite_xferDst_bus (v : Word) (s : State) : (regWrite (.xferDst v) s).bus = s.bus := rfl
@[simp] theorem regWrite_xferDst_tr (v : Word) (s : State) : (regWrite (.xferDst v) s).tr = s.tr := rfl
@[simp] theorem regWrite_xferDst_xfer (v : Word) (s : State) : (regWrite (.xferDst v) s).xfer = { s.xfer with dst := v } := rfl
@[simp] theorem regWrite_xferDstc_bus (v : Word) (s : State) : (regWrite (.xferDstc v) s).bus = s.bus := rfl
@[simp] theorem regWrite_xferDstc_tr (v : Word) (s : State) : (regWrite (.xferDstc v) s).tr = s.tr := rfl
@[simp] theorem regWrite_xferDstc_xfer (v : Word) (s : State) : (regWrite (.xferDstc v) s).xfer = { s.xfer with dstc := v } := rfl
@[simp] theorem regWrite_xferCon_bus (v : Word) (s : State) : (regWrite (.xferCon v) s).bus = s.bus := rfl
@[simp] theorem regWrite_xferCon_tr (v : Word) (s : State) : (regWrite (.xferCon v) s).tr = s.tr := rfl
@[simp] theorem regWrite_xferCon_xfer (v : Word) (s : State) : (regWrite (.xferCon v) s).xfer = { s.xfer with con := v } := rfl
@[simp] theorem regWrite_xferTrig_bus (v : Word) (s : State) : (regWrite (.xferTrig v) s).bus = s.bus := rfl
@[simp] theorem regWrite_xferTrig_tr (v : Word) (s : State) : (regWrite (.xferTrig v) s).tr = s.tr := rfl
@[simp] theorem regWrite_xferTrig_xfer (v : Word) (s : State) : (regWrite (.xferTrig v) s).xfer = storeTrig v s.xfer := rfl

end Sys2Proof.Machine
end

