-- ==== Sys2Proof/Laws/Ops.lean ====
section
/-! SUPPORT. What each shared operation can do, said once: the waits and the byte transfer, the sinks, table reads, and the guards. -/

namespace Sys2Proof.Machine

/-- If a sequence of two answers a next state, the first did and the second went on from it. -/
theorem andThen_next {r : Result} {f : State → Result} {t : State} (h : andThen r f = .next t) :
    ∃ s, r = .next s ∧ f s = .next t := by
  cases r with
  | next s => exact ⟨s, rfl, h⟩
  | fault e => cases h
  | refused e => cases h

/-- If a step that is guarded by `OST` answers a next state, `OST` named it. -/
theorem atStep_next {o : Ost} {s t : State} {r : Result} (h : atStep o s r = .next t) : s.ost = o ∧ r = .next t := by
  simp only [atStep] at h
  split at h
  · exact ⟨‹_›, h⟩
  · cases h

/-- A step at its own `OST` runs. -/
theorem atStep_self {o : Ost} {s : State} {r : Result} (h : s.ost = o) : atStep o s r = r := by simp [atStep, h]

/-- If a bus operation answers a next state, it was on `none` and did nothing, or it ran on the selected channel. -/
theorem onBus_next {h : Handle} {s t : State} {f : Result} (e : onBus h s f = .next t) :
    (h = none ∧ t = s) ∨ (∃ ch, h = some ch ∧ selectBus s.cfg s.cfg.busCh = some ch ∧ f = .next t) := by
  cases h with
  | none => simp only [onBus] at e; cases e; exact .inl ⟨rfl, rfl⟩
  | some ch =>
    simp only [onBus] at e
    split at e
    · exact .inr ⟨ch, rfl, ‹_›, e⟩
    · cases e

/-- On the selected channel's handle a bus operation runs. -/
theorem onBus_selected {ch : Nat} {s : State} {f : Result} (h : selectBus s.cfg s.cfg.busCh = some ch) :
    onBus (some ch) s f = f := by simp [onBus, h]

/-- If a transfer operation answers a next state, it was on `none` and did nothing, or it ran on the selected channel. -/
theorem onXfer_next {h : Handle} {s t : State} {f : Result} (e : onXfer h s f = .next t) :
    (h = none ∧ t = s) ∨ (∃ ch, h = some ch ∧ selectXfer s.cfg.xferCh = some ch ∧ f = .next t) := by
  cases h with
  | none => simp only [onXfer] at e; cases e; exact .inl ⟨rfl, rfl⟩
  | some ch =>
    simp only [onXfer] at e
    split at e
    · exact .inr ⟨ch, rfl, ‹_›, e⟩
    · cases e

/-- On the selected channel's handle a transfer operation runs. -/
theorem onXfer_selected {ch : Nat} {s : State} {f : Result} (h : selectXfer s.cfg.xferCh = some ch) :
    onXfer (some ch) s f = f := by simp [onXfer, h]

/-- An action without register writes is over at once. -/
theorem oneWriteOf_none (k : State → State) (s : State) : oneWriteOf [] k s = k s := rfl

/-- The first access of an action of two. -/
theorem oneWriteOf_first {s : State} (w v : RegW) (k : State → State) (h : s.midAction = false) :
    oneWriteOf [w, v] k s = { regWrite w s with midAction := true } := by simp [oneWriteOf, h]

/-- The second access of an action of two, with which it is over. -/
theorem oneWriteOf_second {s : State} (w v : RegW) (k : State → State) (h : s.midAction = true) :
    oneWriteOf [w, v] k s = k { regWrite v s with midAction := false } := by simp [oneWriteOf, h]

/-- An action of two accesses, taken one after the other, is the whole operation (rules R46 and R51). -/
theorem oneWriteOf_twice {s : State} (w v : RegW) (k : State → State) (h : s.midAction = false) :
    oneWriteOf [w, v] k (oneWriteOf [w, v] k s) = k (regWrites [w, v] s) := by
  have e : { regWrite v { regWrite w s with midAction := true } with midAction := false } = regWrite v (regWrite w s) := by
    obtain ⟨cfg, ost, sub, bph, midAction, delayDone, fbb, bh, xh, tp, rem, ph, byte, malformed, gpio, bus, xfer, mem, tr, rw, calls,
      result, drawn, agenda⟩ := s
    simp only at h
    subst h
    cases w <;> cases v <;> simp [regWrite, storeReg, storeBusCon, startShift, emit, rearmShift] <;> (repeat' split) <;> rfl
  rw [oneWriteOf_first w v k h, oneWriteOf_second w v k rfl, e]
  rfl

/-- The two delays the thread can stand in, and what it asks for there. -/
theorem delayRequested_eq_some {s : State} {n : Nat} : delayRequested s = some n ↔
    s.ost = .resetPulse ∧ ((s.sub = 1#2 ∧ n = s.cfg.tLowMs) ∨ (s.sub = 3#2 ∧ n = s.cfg.tHighMs)) := by
  unfold delayRequested
  split
  · next h => simp [h.1, h.2, eq_comm]
  · next h =>
    split
    · next k => simp [k.1, k.2, eq_comm]
    · next k =>
      simp only [reduceCtorEq, false_iff]
      rintro ⟨ho, ⟨hs, _⟩ | ⟨hs, _⟩⟩
      · exact h ⟨ho, hs⟩
      · exact k ⟨ho, hs⟩

/-- The states in which the thread stands in a delay. -/
theorem inDelay_iff {s : State} : inDelay s = true ↔ s.ost = .resetPulse ∧ (s.sub = 1#2 ∨ s.sub = 3#2) := by
  simp [inDelay, Option.isSome_iff_exists, delayRequested_eq_some, exists_or]

/-- What a delay can be: over, with what follows it, or not over, and then nothing changes. -/
theorem delayThen_cases (n : Nat) (k : State → State) (s : State) :
    (delayOver s = true ∧ delayThen n k s = k (delay n s)) ∨ (delayOver s = false ∧ delayThen n k s = s) := by
  cases h : delayOver s <;> simp [delayThen, h]

/-- A table read inside the table gives the byte and changes nothing. -/
theorem tableFetch_inside {off : Nat} {s : State} {b : Byte} (h : s.cfg.table[off]? = some b) :
    tableFetch off s = .ok (b, s) := by simp [tableFetch, h]

/-- What a table read can give: the byte and the same state, or a free byte with `MALFORMED` set. -/
theorem tableFetch_ok {off : Nat} {s t : State} {b : Byte} (h : tableFetch off s = .ok (b, t)) :
    (s.cfg.table[off]? = some b ∧ t = s) ∨
    (s.cfg.tableLen ≤ off ∧ b = Config.freeByte s.drawn ∧ t = setMalformed (draw s)) := by
  simp only [tableFetch] at h
  split at h
  · cases h; exact .inl ⟨‹_›, rfl⟩
  · rename_i hn
    split at h
    · cases h
    · cases h; exact .inr ⟨by simpa using hn, rfl, rfl⟩

/-- A wait on an idle bus is over at once. -/
theorem waitReady_ready {s : State} (h : s.bus.ready = true) : waitReady s = some s := by simp [waitReady, statusReady, h]

/-- A wait on a busy, responsive bus ends with the shift complete. -/
theorem waitReady_busy {s : State} (h : s.bus.ready = false) (hr : s.cfg.busResponsive = true) :
    waitReady s = some (completeShift s) := by simp [waitReady, statusReady, h, hr]

/-- A wait on a busy bus that does not answer does not end. -/
theorem waitReady_hung {s : State} (h : s.bus.ready = false) (hr : s.cfg.busResponsive = false) : waitReady s = none := by
  simp [waitReady, statusReady, h, hr]

/-- What a wait that ends can leave: the same state with the bus idle, or the shift completed. -/
theorem waitReady_some {s t : State} (h : waitReady s = some t) :
    (t = s ∧ s.bus.ready = true) ∨ (t = completeShift s ∧ s.bus.ready = false ∧ s.cfg.busResponsive = true) := by
  cases hb : s.bus.ready with
  | true => rw [waitReady_ready hb] at h; cases h; exact .inl ⟨rfl, rfl⟩
  | false =>
    cases hr : s.cfg.busResponsive with
    | true => rw [waitReady_busy hb hr] at h; cases h; exact .inr ⟨rfl, rfl, rfl⟩
    | false => rw [waitReady_hung hb hr] at h; cases h

/-- The second wait just after a data write, on a responsive bus. -/
theorem runSecondWait_started {s : State} (h : s.bus.ready = false) (hr : s.cfg.busResponsive = true) :
    runSecondWait s = { completeShift s with bph := .idle } := by simp [runSecondWait, waitReady_busy h hr]

@[simp] theorem runSecondWait_cfg (s : State) : (runSecondWait s).cfg = s.cfg := by
  simp only [runSecondWait]
  split
  · rename_i t h; rcases waitReady_some h with ⟨rfl, _⟩ | ⟨rfl, _⟩ <;> rfl
  · rfl
@[simp] theorem runSecondWait_ost (s : State) : (runSecondWait s).ost = s.ost := by
  simp only [runSecondWait]
  split
  · rename_i t h; rcases waitReady_some h with ⟨rfl, _⟩ | ⟨rfl, _⟩ <;> rfl
  · rfl
@[simp] theorem runSecondWait_sub (s : State) : (runSecondWait s).sub = s.sub := by
  simp only [runSecondWait]
  split
  · rename_i t h; rcases waitReady_some h with ⟨rfl, _⟩ | ⟨rfl, _⟩ <;> rfl
  · rfl
@[simp] theorem runSecondWait_midAction (s : State) : (runSecondWait s).midAction = s.midAction := by
  simp only [runSecondWait]
  split
  · rename_i t h; rcases waitReady_some h with ⟨rfl, _⟩ | ⟨rfl, _⟩ <;> rfl
  · rfl
@[simp] theorem runSecondWait_delayDone (s : State) : (runSecondWait s).delayDone = s.delayDone := by
  simp only [runSecondWait]
  split
  · rename_i t h; rcases waitReady_some h with ⟨rfl, _⟩ | ⟨rfl, _⟩ <;> rfl
  · rfl
@[simp] theorem runSecondWait_fbb (s : State) : (runSecondWait s).fbb = s.fbb := by
  simp only [runSecondWait]
  split
  · rename_i t h; rcases waitReady_some h with ⟨rfl, _⟩ | ⟨rfl, _⟩ <;> rfl
  · rfl
@[simp] theorem runSecondWait_bh (s : State) : (runSecondWait s).bh = s.bh := by
  simp only [runSecondWait]
  split
  · rename_i t h; rcases waitReady_some h with ⟨rfl, _⟩ | ⟨rfl, _⟩ <;> rfl
  · rfl
@[simp] theorem runSecondWait_xh (s : State) : (runSecondWait s).xh = s.xh := by
  simp only [runSecondWait]
  split
  · rename_i t h; rcases waitReady_some h with ⟨rfl, _⟩ | ⟨rfl, _⟩ <;> rfl
  · rfl
@[simp] theorem runSecondWait_tp (s : State) : (runSecondWait s).tp = s.tp := by
  simp only [runSecondWait]
  split
  · rename_i t h; rcases waitReady_some h with ⟨rfl, _⟩ | ⟨rfl, _⟩ <;> rfl
  · rfl
@[simp] theorem runSecondWait_rem (s : State) : (runSecondWait s).rem = s.rem := by
  simp only [runSecondWait]
  split
  · rename_i t h; rcases waitReady_some h with ⟨rfl, _⟩ | ⟨rfl, _⟩ <;> rfl
  · rfl
@[simp] theorem runSecondWait_ph (s : State) : (runSecondWait s).ph = s.ph := by
  simp only [runSecondWait]
  split
  · rename_i t h; rcases waitReady_some h with ⟨rfl, _⟩ | ⟨rfl, _⟩ <;> rfl
  · rfl
@[simp] theorem runSecondWait_byte (s : State) : (runSecondWait s).byte = s.byte := by
  simp only [runSecondWait]
  split
  · rename_i t h; rcases waitReady_some h with ⟨rfl, _⟩ | ⟨rfl, _⟩ <;> rfl
  · rfl
@[simp] theorem runSecondWait_malformed (s : State) : (runSecondWait s).malformed = s.malformed := by
  simp only [runSecondWait]
  split
  · rename_i t h; rcases waitReady_some h with ⟨rfl, _⟩ | ⟨rfl, _⟩ <;> rfl
  · rfl
@[simp] theorem runSecondWait_gpio (s : State) : (runSecondWait s).gpio = s.gpio := by
  simp only [runSecondWait]
  split
  · rename_i t h; rcases waitReady_some h with ⟨rfl, _⟩ | ⟨rfl, _⟩ <;> rfl
  · rfl
@[simp] theorem runSecondWait_xfer (s : State) : (runSecondWait s).xfer = s.xfer := by
  simp only [runSecondWait]
  split
  · rename_i t h; rcases waitReady_some h with ⟨rfl, _⟩ | ⟨rfl, _⟩ <;> rfl
  · rfl
@[simp] theorem runSecondWait_mem (s : State) : (runSecondWait s).mem = s.mem := by
  simp only [runSecondWait]
  split
  · rename_i t h; rcases waitReady_some h with ⟨rfl, _⟩ | ⟨rfl, _⟩ <;> rfl
  · rfl
@[simp] theorem runSecondWait_calls (s : State) : (runSecondWait s).calls = s.calls := by
  simp only [runSecondWait]
  split
  · rename_i t h; rcases waitReady_some h with ⟨rfl, _⟩ | ⟨rfl, _⟩ <;> rfl
  · rfl
@[simp] theorem runSecondWait_result (s : State) : (runSecondWait s).result = s.result := by
  simp only [runSecondWait]
  split
  · rename_i t h; rcases waitReady_some h with ⟨rfl, _⟩ | ⟨rfl, _⟩ <;> rfl
  · rfl
@[simp] theorem runSecondWait_agenda (s : State) : (runSecondWait s).agenda = s.agenda := by
  simp only [runSecondWait]
  split
  · rename_i t h; rcases waitReady_some h with ⟨rfl, _⟩ | ⟨rfl, _⟩ <;> rfl
  · rfl

@[simp] theorem runFirstWait_cfg (b : Byte) (s : State) : (runFirstWait b s).cfg = s.cfg := by
  simp only [runFirstWait]
  split
  · rename_i t h
    rcases waitReady_some h with ⟨rfl, _⟩ | ⟨rfl, _⟩ <;> simp
  · rfl
@[simp] theorem runFirstWait_ost (b : Byte) (s : State) : (runFirstWait b s).ost = s.ost := by
  simp only [runFirstWait]
  split
  · rename_i t h
    rcases waitReady_some h with ⟨rfl, _⟩ | ⟨rfl, _⟩ <;> simp
  · rfl
@[simp] theorem runFirstWait_sub (b : Byte) (s : State) : (runFirstWait b s).sub = s.sub := by
  simp only [runFirstWait]
  split
  · rename_i t h
    rcases waitReady_some h with ⟨rfl, _⟩ | ⟨rfl, _⟩ <;> simp
  · rfl
@[simp] theorem runFirstWait_midAction (b : Byte) (s : State) : (runFirstWait b s).midAction = s.midAction := by
  simp only [runFirstWait]
  split
  · rename_i t h
    rcases waitReady_some h with ⟨rfl, _⟩ | ⟨rfl, _⟩ <;> simp
  · rfl
@[simp] theorem runFirstWait_delayDone (b : Byte) (s : State) : (runFirstWait b s).delayDone = s.delayDone := by
  simp only [runFirstWait]
  split
  · rename_i t h
    rcases waitReady_some h with ⟨rfl, _⟩ | ⟨rfl, _⟩ <;> simp
  · rfl
@[simp] theorem runFirstWait_fbb (b : Byte) (s : State) : (runFirstWait b s).fbb = s.fbb := by
  simp only [runFirstWait]
  split
  · rename_i t h
    rcases waitReady_some h with ⟨rfl, _⟩ | ⟨rfl, _⟩ <;> simp
  · rfl
@[simp] theorem runFirstWait_bh (b : Byte) (s : State) : (runFirstWait b s).bh = s.bh := by
  simp only [runFirstWait]
  split
  · rename_i t h
    rcases waitReady_some h with ⟨rfl, _⟩ | ⟨rfl, _⟩ <;> simp
  · rfl
@[simp] theorem runFirstWait_xh (b : Byte) (s : State) : (runFirstWait b s).xh = s.xh := by
  simp only [runFirstWait]
  split
  · rename_i t h
    rcases waitReady_some h with ⟨rfl, _⟩ | ⟨rfl, _⟩ <;> simp
  · rfl
@[simp] theorem runFirstWait_tp (b : Byte) (s : State) : (runFirstWait b s).tp = s.tp := by
  simp only [runFirstWait]
  split
  · rename_i t h
    rcases waitReady_some h with ⟨rfl, _⟩ | ⟨rfl, _⟩ <;> simp
  · rfl
@[simp] theorem runFirstWait_rem (b : Byte) (s : State) : (runFirstWait b s).rem = s.rem := by
  simp only [runFirstWait]
  split
  · rename_i t h
    rcases waitReady_some h with ⟨rfl, _⟩ | ⟨rfl, _⟩ <;> simp
  · rfl
@[simp] theorem runFirstWait_ph (b : Byte) (s : State) : (runFirstWait b s).ph = s.ph := by
  simp only [runFirstWait]
  split
  · rename_i t h
    rcases waitReady_some h with ⟨rfl, _⟩ | ⟨rfl, _⟩ <;> simp
  · rfl
@[simp] theorem runFirstWait_byte (b : Byte) (s : State) : (runFirstWait b s).byte = s.byte := by
  simp only [runFirstWait]
  split
  · rename_i t h
    rcases waitReady_some h with ⟨rfl, _⟩ | ⟨rfl, _⟩ <;> simp
  · rfl
@[simp] theorem runFirstWait_malformed (b : Byte) (s : State) : (runFirstWait b s).malformed = s.malformed := by
  simp only [runFirstWait]
  split
  · rename_i t h
    rcases waitReady_some h with ⟨rfl, _⟩ | ⟨rfl, _⟩ <;> simp
  · rfl
@[simp] theorem runFirstWait_gpio (b : Byte) (s : State) : (runFirstWait b s).gpio = s.gpio := by
  simp only [runFirstWait]
  split
  · rename_i t h
    rcases waitReady_some h with ⟨rfl, _⟩ | ⟨rfl, _⟩ <;> simp
  · rfl
@[simp] theorem runFirstWait_xfer (b : Byte) (s : State) : (runFirstWait b s).xfer = s.xfer := by
  simp only [runFirstWait]
  split
  · rename_i t h
    rcases waitReady_some h with ⟨rfl, _⟩ | ⟨rfl, _⟩ <;> simp
  · rfl
@[simp] theorem runFirstWait_mem (b : Byte) (s : State) : (runFirstWait b s).mem = s.mem := by
  simp only [runFirstWait]
  split
  · rename_i t h
    rcases waitReady_some h with ⟨rfl, _⟩ | ⟨rfl, _⟩ <;> simp
  · rfl
@[simp] theorem runFirstWait_calls (b : Byte) (s : State) : (runFirstWait b s).calls = s.calls := by
  simp only [runFirstWait]
  split
  · rename_i t h
    rcases waitReady_some h with ⟨rfl, _⟩ | ⟨rfl, _⟩ <;> simp
  · rfl
@[simp] theorem runFirstWait_result (b : Byte) (s : State) : (runFirstWait b s).result = s.result := by
  simp only [runFirstWait]
  split
  · rename_i t h
    rcases waitReady_some h with ⟨rfl, _⟩ | ⟨rfl, _⟩ <;> simp
  · rfl
@[simp] theorem runFirstWait_agenda (b : Byte) (s : State) : (runFirstWait b s).agenda = s.agenda := by
  simp only [runFirstWait]
  split
  · rename_i t h
    rcases waitReady_some h with ⟨rfl, _⟩ | ⟨rfl, _⟩ <;> simp
  · rfl

@[simp] theorem runTransfer_cfg (b : Byte) (s : State) : (runTransfer b s).cfg = s.cfg := by simp only [runTransfer]; split <;> simp
@[simp] theorem runTransfer_ost (b : Byte) (s : State) : (runTransfer b s).ost = s.ost := by simp only [runTransfer]; split <;> simp
@[simp] theorem runTransfer_sub (b : Byte) (s : State) : (runTransfer b s).sub = s.sub := by simp only [runTransfer]; split <;> simp
@[simp] theorem runTransfer_midAction (b : Byte) (s : State) : (runTransfer b s).midAction = s.midAction := by simp only [runTransfer]; split <;> simp
@[simp] theorem runTransfer_delayDone (b : Byte) (s : State) : (runTransfer b s).delayDone = s.delayDone := by simp only [runTransfer]; split <;> simp
@[simp] theorem runTransfer_fbb (b : Byte) (s : State) : (runTransfer b s).fbb = s.fbb := by simp only [runTransfer]; split <;> simp
@[simp] theorem runTransfer_bh (b : Byte) (s : State) : (runTransfer b s).bh = s.bh := by simp only [runTransfer]; split <;> simp
@[simp] theorem runTransfer_xh (b : Byte) (s : State) : (runTransfer b s).xh = s.xh := by simp only [runTransfer]; split <;> simp
@[simp] theorem runTransfer_tp (b : Byte) (s : State) : (runTransfer b s).tp = s.tp := by simp only [runTransfer]; split <;> simp
@[simp] theorem runTransfer_rem (b : Byte) (s : State) : (runTransfer b s).rem = s.rem := by simp only [runTransfer]; split <;> simp
@[simp] theorem runTransfer_ph (b : Byte) (s : State) : (runTransfer b s).ph = s.ph := by simp only [runTransfer]; split <;> simp
@[simp] theorem runTransfer_byte (b : Byte) (s : State) : (runTransfer b s).byte = s.byte := by simp only [runTransfer]; split <;> simp
@[simp] theorem runTransfer_malformed (b : Byte) (s : State) : (runTransfer b s).malformed = s.malformed := by simp only [runTransfer]; split <;> simp
@[simp] theorem runTransfer_gpio (b : Byte) (s : State) : (runTransfer b s).gpio = s.gpio := by simp only [runTransfer]; split <;> simp
@[simp] theorem runTransfer_xfer (b : Byte) (s : State) : (runTransfer b s).xfer = s.xfer := by simp only [runTransfer]; split <;> simp
@[simp] theorem runTransfer_mem (b : Byte) (s : State) : (runTransfer b s).mem = s.mem := by simp only [runTransfer]; split <;> simp
@[simp] theorem runTransfer_calls (b : Byte) (s : State) : (runTransfer b s).calls = s.calls := by simp only [runTransfer]; split <;> simp
@[simp] theorem runTransfer_result (b : Byte) (s : State) : (runTransfer b s).result = s.result := by simp only [runTransfer]; split <;> simp
@[simp] theorem runTransfer_agenda (b : Byte) (s : State) : (runTransfer b s).agenda = s.agenda := by simp only [runTransfer]; split <;> simp

@[simp] theorem transferOn_cfg (h : Handle) (b : Byte) (s : State) : (transferOn h b s).cfg = s.cfg := by cases h <;> simp [transferOn]
@[simp] theorem transferOn_ost (h : Handle) (b : Byte) (s : State) : (transferOn h b s).ost = s.ost := by cases h <;> simp [transferOn]
@[simp] theorem transferOn_sub (h : Handle) (b : Byte) (s : State) : (transferOn h b s).sub = s.sub := by cases h <;> simp [transferOn]
@[simp] theorem transferOn_midAction (h : Handle) (b : Byte) (s : State) : (transferOn h b s).midAction = s.midAction := by cases h <;> simp [transferOn]
@[simp] theorem transferOn_delayDone (h : Handle) (b : Byte) (s : State) : (transferOn h b s).delayDone = s.delayDone := by cases h <;> simp [transferOn]
@[simp] theorem transferOn_fbb (h : Handle) (b : Byte) (s : State) : (transferOn h b s).fbb = s.fbb := by cases h <;> simp [transferOn]
@[simp] theorem transferOn_bh (h : Handle) (b : Byte) (s : State) : (transferOn h b s).bh = s.bh := by cases h <;> simp [transferOn]
@[simp] theorem transferOn_xh (h : Handle) (b : Byte) (s : State) : (transferOn h b s).xh = s.xh := by cases h <;> simp [transferOn]
@[simp] theorem transferOn_tp (h : Handle) (b : Byte) (s : State) : (transferOn h b s).tp = s.tp := by cases h <;> simp [transferOn]
@[simp] theorem transferOn_rem (h : Handle) (b : Byte) (s : State) : (transferOn h b s).rem = s.rem := by cases h <;> simp [transferOn]
@[simp] theorem transferOn_ph (h : Handle) (b : Byte) (s : State) : (transferOn h b s).ph = s.ph := by cases h <;> simp [transferOn]
@[simp] theorem transferOn_byte (h : Handle) (b : Byte) (s : State) : (transferOn h b s).byte = s.byte := by cases h <;> simp [transferOn]
@[simp] theorem transferOn_malformed (h : Handle) (b : Byte) (s : State) : (transferOn h b s).malformed = s.malformed := by cases h <;> simp [transferOn]
@[simp] theorem transferOn_gpio (h : Handle) (b : Byte) (s : State) : (transferOn h b s).gpio = s.gpio := by cases h <;> simp [transferOn]
@[simp] theorem transferOn_xfer (h : Handle) (b : Byte) (s : State) : (transferOn h b s).xfer = s.xfer := by cases h <;> simp [transferOn]
@[simp] theorem transferOn_mem (h : Handle) (b : Byte) (s : State) : (transferOn h b s).mem = s.mem := by cases h <;> simp [transferOn]
@[simp] theorem transferOn_calls (h : Handle) (b : Byte) (s : State) : (transferOn h b s).calls = s.calls := by cases h <;> simp [transferOn]
@[simp] theorem transferOn_result (h : Handle) (b : Byte) (s : State) : (transferOn h b s).result = s.result := by cases h <;> simp [transferOn]
@[simp] theorem transferOn_agenda (h : Handle) (b : Byte) (s : State) : (transferOn h b s).agenda = s.agenda := by cases h <;> simp [transferOn]

/-- A byte transfer on a responsive bus: the byte is sent at the line's level, a free byte is received, the bus ends idle. -/
theorem runTransfer_responsive (b : Byte) {s : State} (hi : s.bph = .idle) (hr : s.cfg.busResponsive = true) :
    runTransfer b s = { s with
      bus := { s.bus with
        dat := Config.freeByte (s.drawn + if s.bus.ready then 0 else 1), shift := b, ready := true }
      tr := s.tr ++ [.tx s.gpio.dc b]
      rw := s.rw ++ [.busDat b]
      drawn := s.drawn + (if s.bus.ready then 0 else 1) + 1 } := by
  obtain ⟨cfg, ost, sub, bph, midAction, delayDone, fbb, bh, xh, tp, rem, ph, byte, malformed, gpio, ⟨con, ready, dat, pre, shift⟩, xfer, mem, tr, rw,
    calls, result, drawn, agenda⟩ := s
  simp only at hi hr
  subst hi
  cases ready <;>
    simp [runTransfer, runFirstWait, waitReady, statusReady, hr, runSecondWait, regWrite, storeReg, startShift, emit, completeShift, draw]

/-- A byte transfer begun on an idle bus that does not answer stays in its second wait. -/
theorem runTransfer_hung (b : Byte) {s : State} (hi : s.bph = .idle) (hb : s.bus.ready = true) (hr : s.cfg.busResponsive = false) :
    runTransfer b s = { s with
      bus := { s.bus with shift := b, ready := false }, tr := s.tr ++ [.tx s.gpio.dc b], rw := s.rw ++ [.busDat b]
      bph := .w2 } := by
  obtain ⟨cfg, ost, sub, bph, midAction, delayDone, fbb, bh, xh, tp, rem, ph, byte, malformed, gpio, ⟨con, ready, dat, pre, shift⟩, xfer, mem, tr, rw,
    calls, result, drawn, agenda⟩ := s
  simp only at hi hb hr
  subst hi hb
  simp [runTransfer, runFirstWait, waitReady, statusReady, hr, runSecondWait, regWrite, storeReg, startShift, emit]

/-- A transfer never leaves the bus control register or the prescaler changed. -/
theorem runSecondWait_bus_fixed (s : State) : (runSecondWait s).bus.con = s.bus.con ∧ (runSecondWait s).bus.pre = s.bus.pre := by
  simp only [runSecondWait]
  split
  · rename_i t h; rcases waitReady_some h with ⟨rfl, _⟩ | ⟨rfl, _⟩ <;> simp
  · simp

/-- The same for the whole transfer. -/
theorem runFirstWait_bus_fixed (b : Byte) (s : State) :
    (runFirstWait b s).bus.con = s.bus.con ∧ (runFirstWait b s).bus.pre = s.bus.pre := by
  simp only [runFirstWait]
  split
  · rename_i t h
    rcases waitReady_some h with ⟨rfl, _⟩ | ⟨rfl, _⟩ <;> simp [runSecondWait_bus_fixed]
  · simp

/-- The same for a transfer on a handle. -/
theorem transferOn_bus_fixed (h : Handle) (b : Byte) (s : State) :
    (transferOn h b s).bus.con = s.bus.con ∧ (transferOn h b s).bus.pre = s.bus.pre := by
  cases h with
  | none => exact ⟨rfl, rfl⟩
  | some ch =>
    simp only [transferOn, runTransfer]
    split <;> simp [runFirstWait_bus_fixed, runSecondWait_bus_fixed]

/-- A transfer only extends the traces. -/
theorem runSecondWait_traces (s : State) : s.tr <+: (runSecondWait s).tr ∧ s.rw <+: (runSecondWait s).rw := by
  simp only [runSecondWait]
  split
  · rename_i t h; rcases waitReady_some h with ⟨rfl, _⟩ | ⟨rfl, _⟩ <;> simp
  · simp

/-- The same for the first wait and what follows it. -/
theorem runFirstWait_traces (b : Byte) (s : State) : s.tr <+: (runFirstWait b s).tr ∧ s.rw <+: (runFirstWait b s).rw := by
  simp only [runFirstWait]
  split
  · rename_i t h
    have key := runSecondWait_traces { regWrite (.busDat b) t with bph := .w2 }
    rcases waitReady_some h with ⟨rfl, _⟩ | ⟨rfl, _⟩
    · exact ⟨List.IsPrefix.trans (by simp) key.1, List.IsPrefix.trans (by simp) key.2⟩
    · exact ⟨List.IsPrefix.trans (by simp) key.1, List.IsPrefix.trans (by simp) key.2⟩
  · simp

/-- The same for a transfer on a handle. -/
theorem transferOn_traces (h : Handle) (b : Byte) (s : State) :
    s.tr <+: (transferOn h b s).tr ∧ s.rw <+: (transferOn h b s).rw := by
  cases h with
  | none => simp [transferOn]
  | some ch =>
    simp only [transferOn, runTransfer]
    split
    · exact runFirstWait_traces b { s with bph := .w1 }
    · exact runFirstWait_traces b s
    · exact runSecondWait_traces _

/-- The phase after a sink: unchanged while a transfer is in progress. -/
theorem afterSink_eq (s : State) : afterSink s = { s with ph := (afterSink s).ph } := by simp only [afterSink]; split <;> rfl

@[simp] theorem afterSink_cfg (s : State) : (afterSink s).cfg = s.cfg := by rw [afterSink_eq]
@[simp] theorem afterSink_ost (s : State) : (afterSink s).ost = s.ost := by rw [afterSink_eq]
@[simp] theorem afterSink_sub (s : State) : (afterSink s).sub = s.sub := by rw [afterSink_eq]
@[simp] theorem afterSink_bph (s : State) : (afterSink s).bph = s.bph := by rw [afterSink_eq]
@[simp] theorem afterSink_midAction (s : State) : (afterSink s).midAction = s.midAction := by rw [afterSink_eq]
@[simp] theorem afterSink_delayDone (s : State) : (afterSink s).delayDone = s.delayDone := by rw [afterSink_eq]
@[simp] theorem afterSink_fbb (s : State) : (afterSink s).fbb = s.fbb := by rw [afterSink_eq]
@[simp] theorem afterSink_bh (s : State) : (afterSink s).bh = s.bh := by rw [afterSink_eq]
@[simp] theorem afterSink_xh (s : State) : (afterSink s).xh = s.xh := by rw [afterSink_eq]
@[simp] theorem afterSink_tp (s : State) : (afterSink s).tp = s.tp := by rw [afterSink_eq]
@[simp] theorem afterSink_rem (s : State) : (afterSink s).rem = s.rem := by rw [afterSink_eq]
@[simp] theorem afterSink_byte (s : State) : (afterSink s).byte = s.byte := by rw [afterSink_eq]
@[simp] theorem afterSink_malformed (s : State) : (afterSink s).malformed = s.malformed := by rw [afterSink_eq]
@[simp] theorem afterSink_gpio (s : State) : (afterSink s).gpio = s.gpio := by rw [afterSink_eq]
@[simp] theorem afterSink_bus (s : State) : (afterSink s).bus = s.bus := by rw [afterSink_eq]
@[simp] theorem afterSink_xfer (s : State) : (afterSink s).xfer = s.xfer := by rw [afterSink_eq]
@[simp] theorem afterSink_mem (s : State) : (afterSink s).mem = s.mem := by rw [afterSink_eq]
@[simp] theorem afterSink_tr (s : State) : (afterSink s).tr = s.tr := by rw [afterSink_eq]
@[simp] theorem afterSink_rw (s : State) : (afterSink s).rw = s.rw := by rw [afterSink_eq]
@[simp] theorem afterSink_calls (s : State) : (afterSink s).calls = s.calls := by rw [afterSink_eq]
@[simp] theorem afterSink_result (s : State) : (afterSink s).result = s.result := by rw [afterSink_eq]
@[simp] theorem afterSink_drawn (s : State) : (afterSink s).drawn = s.drawn := by rw [afterSink_eq]
@[simp] theorem afterSink_agenda (s : State) : (afterSink s).agenda = s.agenda := by rw [afterSink_eq]

@[simp] theorem orchestratorSink_cfg (c : SinkCall) (s : State) : (orchestratorSink c s).cfg = s.cfg := by simp [orchestratorSink]
@[simp] theorem orchestratorSink_ost (c : SinkCall) (s : State) : (orchestratorSink c s).ost = s.ost := by simp [orchestratorSink]
@[simp] theorem orchestratorSink_sub (c : SinkCall) (s : State) : (orchestratorSink c s).sub = s.sub := by simp [orchestratorSink]
@[simp] theorem orchestratorSink_midAction (c : SinkCall) (s : State) : (orchestratorSink c s).midAction = s.midAction := by simp [orchestratorSink]
@[simp] theorem orchestratorSink_delayDone (c : SinkCall) (s : State) : (orchestratorSink c s).delayDone = s.delayDone := by simp [orchestratorSink]
@[simp] theorem orchestratorSink_fbb (c : SinkCall) (s : State) : (orchestratorSink c s).fbb = s.fbb := by simp [orchestratorSink]
@[simp] theorem orchestratorSink_bh (c : SinkCall) (s : State) : (orchestratorSink c s).bh = s.bh := by simp [orchestratorSink]
@[simp] theorem orchestratorSink_xh (c : SinkCall) (s : State) : (orchestratorSink c s).xh = s.xh := by simp [orchestratorSink]
@[simp] theorem orchestratorSink_tp (c : SinkCall) (s : State) : (orchestratorSink c s).tp = s.tp := by simp [orchestratorSink]
@[simp] theorem orchestratorSink_rem (c : SinkCall) (s : State) : (orchestratorSink c s).rem = s.rem := by simp [orchestratorSink]
@[simp] theorem orchestratorSink_ph (c : SinkCall) (s : State) : (orchestratorSink c s).ph = s.ph := by simp [orchestratorSink]
@[simp] theorem orchestratorSink_byte (c : SinkCall) (s : State) : (orchestratorSink c s).byte = s.byte := by simp [orchestratorSink]
@[simp] theorem orchestratorSink_malformed (c : SinkCall) (s : State) : (orchestratorSink c s).malformed = s.malformed := by simp [orchestratorSink]
@[simp] theorem orchestratorSink_xfer (c : SinkCall) (s : State) : (orchestratorSink c s).xfer = s.xfer := by simp [orchestratorSink]
@[simp] theorem orchestratorSink_mem (c : SinkCall) (s : State) : (orchestratorSink c s).mem = s.mem := by simp [orchestratorSink]
@[simp] theorem orchestratorSink_calls (c : SinkCall) (s : State) : (orchestratorSink c s).calls = s.calls := by simp [orchestratorSink]
@[simp] theorem orchestratorSink_result (c : SinkCall) (s : State) : (orchestratorSink c s).result = s.result := by simp [orchestratorSink]
@[simp] theorem orchestratorSink_agenda (c : SinkCall) (s : State) : (orchestratorSink c s).agenda = s.agenda := by simp [orchestratorSink]

@[simp] theorem callSink_cfg (k : Sinks) (c : SinkCall) (s : State) : (callSink k c s).cfg = s.cfg := by cases k <;> simp [callSink]
@[simp] theorem callSink_ost (k : Sinks) (c : SinkCall) (s : State) : (callSink k c s).ost = s.ost := by cases k <;> simp [callSink]
@[simp] theorem callSink_sub (k : Sinks) (c : SinkCall) (s : State) : (callSink k c s).sub = s.sub := by cases k <;> simp [callSink]
@[simp] theorem callSink_midAction (k : Sinks) (c : SinkCall) (s : State) : (callSink k c s).midAction = s.midAction := by cases k <;> simp [callSink]
@[simp] theorem callSink_delayDone (k : Sinks) (c : SinkCall) (s : State) : (callSink k c s).delayDone = s.delayDone := by cases k <;> simp [callSink]
@[simp] theorem callSink_fbb (k : Sinks) (c : SinkCall) (s : State) : (callSink k c s).fbb = s.fbb := by cases k <;> simp [callSink]
@[simp] theorem callSink_bh (k : Sinks) (c : SinkCall) (s : State) : (callSink k c s).bh = s.bh := by cases k <;> simp [callSink]
@[simp] theorem callSink_xh (k : Sinks) (c : SinkCall) (s : State) : (callSink k c s).xh = s.xh := by cases k <;> simp [callSink]
@[simp] theorem callSink_tp (k : Sinks) (c : SinkCall) (s : State) : (callSink k c s).tp = s.tp := by cases k <;> simp [callSink]
@[simp] theorem callSink_rem (k : Sinks) (c : SinkCall) (s : State) : (callSink k c s).rem = s.rem := by cases k <;> simp [callSink]
@[simp] theorem callSink_ph (k : Sinks) (c : SinkCall) (s : State) : (callSink k c s).ph = s.ph := by cases k <;> simp [callSink]
@[simp] theorem callSink_byte (k : Sinks) (c : SinkCall) (s : State) : (callSink k c s).byte = s.byte := by cases k <;> simp [callSink]
@[simp] theorem callSink_malformed (k : Sinks) (c : SinkCall) (s : State) : (callSink k c s).malformed = s.malformed := by cases k <;> simp [callSink]
@[simp] theorem callSink_xfer (k : Sinks) (c : SinkCall) (s : State) : (callSink k c s).xfer = s.xfer := by cases k <;> simp [callSink]
@[simp] theorem callSink_mem (k : Sinks) (c : SinkCall) (s : State) : (callSink k c s).mem = s.mem := by cases k <;> simp [callSink]
@[simp] theorem callSink_result (k : Sinks) (c : SinkCall) (s : State) : (callSink k c s).result = s.result := by cases k <;> simp [callSink]
@[simp] theorem callSink_agenda (k : Sinks) (c : SinkCall) (s : State) : (callSink k c s).agenda = s.agenda := by cases k <;> simp [callSink]

/-- A sink of the orchestrator's binding sets the one level and leaves the rest of the lines. -/
@[simp] theorem orchestratorSink_gpio (c : SinkCall) (s : State) :
    (orchestratorSink c s).gpio = { s.gpio with dc := sinkLevel c } := by simp [orchestratorSink]

end Sys2Proof.Machine
end

