-- ==== Sys2Proof/Laws/PerInstr.lean ====
section
/-! SUPPORT. One law for every instruction: which rows have an encoding, and of which format (30_encoding.md rule R69). -/

namespace Sys2Proof.Laws.Encoding

/-- The encoder gives a code of the row's own format for the rows of formats TLV, HCMD and OST, and none for the others. -/
def Statement (i : Instr) : Prop :=
  match encode i with
  | some c => c.format = i.format
  | none => i.format = .op ∨ i.format = .agent ∨ i.format = .port

theorem entry (tag len : Byte) (params : List Byte) : Statement (.entry tag len params) := rfl
theorem init (fb : Addr) : Statement (.init fb) := rfl
theorem writeByte (harg : Word) : Statement (.writeByte harg) := rfl
theorem hcmdNone : Statement .hcmdNone := rfl
theorem hcmdReserved : Statement .hcmdReserved := rfl
theorem step1PinConfig : Statement .step1PinConfig := rfl
theorem step2BusBringup : Statement .step2BusBringup := rfl
theorem step3ResetPulse : Statement .step3ResetPulse := rfl
theorem step4CommandPlayback : Statement .step4CommandPlayback := rfl
theorem step5Window : Statement .step5Window := rfl
theorem step6DataMode : Statement .step6DataMode := rfl
theorem step7SessionSetup : Statement .step7SessionSetup := rfl
theorem step8Trigger : Statement .step8Trigger := rfl
theorem handoff : Statement .handoff := rfl
theorem play (sinks : Sinks) : Statement (.play sinks) := .inl rfl
theorem selectBus (channel : Int) : Statement (.selectBus channel) := .inl rfl
theorem configure (handle : Handle) (modeBits : Byte) : Statement (.configure handle modeBits) := .inl rfl
theorem setClockRate (handle : Handle) (targetHz : Nat) : Statement (.setClockRate handle targetHz) := .inl rfl
theorem readPrescaler (handle : Handle) : Statement (.readPrescaler handle) := .inl rfl
theorem transferByte (handle : Handle) (outByte : Byte) : Statement (.transferByte handle outByte) := .inl rfl
theorem writeOnly (handle : Handle) (outByte : Byte) : Statement (.writeOnly handle outByte) := .inl rfl
theorem busShift (step : ShiftStep) : Statement (.busShift step) := .inr (.inl rfl)
theorem selectXfer (channel : Int) : Statement (.selectXfer channel) := .inl rfl
theorem setSource (handle : Handle) (address : Addr) (controlBits : Word) : Statement (.setSource handle address controlBits) :=
  .inl rfl
theorem setDestination (handle : Handle) (address : Addr) (controlBits : Word) :
    Statement (.setDestination handle address controlBits) := .inl rfl
theorem setControl (handle : Handle) (controlWord : Word) : Statement (.setControl handle controlWord) := .inl rfl
theorem trigger (handle : Handle) : Statement (.trigger handle) := .inl rfl
theorem xferUnit : Statement .xferUnit := .inr (.inl rfl)
theorem gpioOutput (line : Line) : Statement (.gpioOutput line) := .inl rfl
theorem gpioSet (line : Line) (level : Bool) : Statement (.gpioSet line level) := .inl rfl
theorem delayMs (n : Nat) : Statement (.delayMs n) := .inl rfl
theorem writeCommand (b : Byte) : Statement (.writeCommand b) := .inl rfl
theorem writeParameter (b : Byte) : Statement (.writeParameter b) := .inl rfl
theorem tableRead (off : Nat) : Statement (.tableRead off) := .inl rfl
theorem reset : Statement .reset := .inr (.inr rfl)

end Sys2Proof.Laws.Encoding
end

