-- ==== Sys2Proof/Tests/Slice0.lean ====
section
/-! SUPPORT. Small tests: ill-formed terms, words written out from the encoding tables, one or two vectors of 95_test_vectors.md an
instruction, and for each statement with hypotheses a state that meets them (witness_…). -/

namespace Sys2Proof.Tests

open Sys2Proof.Machine

/-! ### Well-formedness: every check refuses an ill-formed term -/

theorem test_wf_entry_length : (Instr.entry 0x3A#8 0x02#8 [0x05#8]).wellFormed = false := by decide
theorem test_wf_entry_good : (Instr.entry 0x3A#8 0x01#8 [0x05#8]).wellFormed = true := by decide
theorem test_wf_rate_zero : (Instr.setClockRate (some 0) 0).wellFormed = false := by decide
theorem test_wf_source_handle : (Instr.setSource (some 4) 0#32 0#32).wellFormed = false := by decide
theorem test_wf_destination_handle : (Instr.setDestination (some 4) 0#32 0#32).wellFormed = false := by decide
theorem test_wf_control_handle : (Instr.setControl (some 4) 0#32).wellFormed = false := by decide
theorem test_wf_trigger_handle : (Instr.trigger (some 4)).wellFormed = false := by decide
theorem test_wf_handles_good : (Instr.trigger (some 3)).wellFormed = true ∧ (Instr.trigger none).wellFormed = true := by decide

/-! ### Decoding: the words as 30_encoding.md rules R61 and R68 and 10_state.md rule R10 write them -/

theorem test_decode_entry : decode (.table [0b00111010#8, 0b00000001#8, 0b00000101#8, 0x11#8]) =
    .ok (.entry 0b00111010#8 0b00000001#8 [0b00000101#8], [0x11#8]) := rfl
theorem test_decode_hcmd_none : decode (.hcmd 0b00#2 0x55#32) = .ok (.hcmdNone, []) := rfl
theorem test_decode_init : decode (.hcmd 0b01#2 0x31000000#32) = .ok (.init 0x31000000#32, []) := rfl
theorem test_decode_write_byte : decode (.hcmd 0b10#2 0x55#32) = .ok (.writeByte 0x55#32, []) := rfl
theorem test_decode_hcmd_reserved : decode (.hcmd 0b11#2 0x55#32) = .ok (.hcmdReserved, []) := rfl
theorem test_decode_step1 : decode (.ost 0b0001#4) = .ok (.step1PinConfig, []) := rfl
theorem test_decode_step2 : decode (.ost 0b0010#4) = .ok (.step2BusBringup, []) := rfl
theorem test_decode_step3 : decode (.ost 0b0011#4) = .ok (.step3ResetPulse, []) := rfl
theorem test_decode_step4 : decode (.ost 0b0100#4) = .ok (.step4CommandPlayback, []) := rfl
theorem test_decode_step5 : decode (.ost 0b0101#4) = .ok (.step5Window, []) := rfl
theorem test_decode_step6 : decode (.ost 0b0110#4) = .ok (.step6DataMode, []) := rfl
theorem test_decode_step7 : decode (.ost 0b0111#4) = .ok (.step7SessionSetup, []) := rfl
theorem test_decode_step8 : decode (.ost 0b1000#4) = .ok (.step8Trigger, []) := rfl
theorem test_decode_handoff : decode (.ost 0b1001#4) = .ok (.handoff, []) := rfl
theorem test_decode_rejects : decode (.ost 0b0000#4) = .error .idleHasNoStep ∧ decode (.ost 0b1010#4) = .error (.reservedStep 0b1010#4) ∧
    decode (.ost 0b1111#4) = .error (.reservedStep 0b1111#4) ∧ decode (.table []) = .error .truncatedHeader ∧
    decode (.table [0x11#8]) = .error .truncatedHeader ∧ decode (.table [0x3A#8, 0x02#8, 0x05#8]) = .error .truncatedParameters :=
  ⟨rfl, rfl, rfl, rfl, rfl, rfl⟩
/-- V-T2, V-T3, V-T7 and V-T8: `Parse`. -/
theorem test_parse : parseTable [0x29#8, 0x00#8] = some [(0x29#8, [])] ∧
    parseTable [0x11#8, 0x00#8, 0x3A#8, 0x01#8, 0x05#8] = some [(0x11#8, []), (0x3A#8, [0x05#8])] ∧
    parseTable [0x3A#8, 0x02#8, 0x05#8, 0x11#8, 0x00#8, 0x00#8] = some [(0x3A#8, [0x05#8, 0x11#8]), (0x00#8, [])] ∧
    parseTable [0x3A#8, 0x02#8, 0x05#8, 0x11#8, 0x00#8] = none := by decide
/-- The table's rows as the host numbers their bits. -/
theorem test_table_words : decodeTableWord 2 1 = some (.init 0#32) ∧ decodeTableWord 4 1 = some .step1PinConfig ∧
    decodeTableWord 8 9 = some .handoff ∧ decodeTableWord 16 0x0011 = some (.entry 0x11#8 0x00#8 []) := by decide

/-! ### States the tests start from -/

/-- The default configuration of 95_test_vectors.md over a table. -/
def cfgOf (table : List Byte) : Config := { Config.sample with table := table, busDatAddr := 0x20000010#32 }

/-- The table of P1. -/
def p1 : List Byte := [0x11#8, 0x00#8, 0x3A#8, 0x01#8, 0x05#8]

/-- A state of a run over a table, at a step, with both handles valid. -/
def at' (o : Ost) (table : List Byte) : State :=
  { State.resetWith (cfgOf table) with ost := o, bh := some 0, xh := some 3, fbb := 0x31000000#32 }

/-- The same with a bus that does not answer. -/
def hung (o : Ost) : State := { at' o p1 with cfg := { cfgOf p1 with busResponsive := false } }

/-- The same over a table whose overrun goes on as the hardware does. -/
def overrunning (o : Ost) (table : List Byte) : State := { at' o table with cfg := { cfgOf table with overrunStops := false } }

/-- In a delay of step 3 that ENV does not answer by itself. -/
def delayed : State := { at' .resetPulse p1 with cfg := { cfgOf p1 with delaysEnd := false }, sub := 1#2 }

/-- Handed off and armed, `n` units left, reload on or off; the framebuffer holds two bytes. -/
def streaming (con : Word) (n : BitVec 20) : State :=
  { at' .handoff p1 with
    gpio := ⟨true, true, true, true⟩
    mem := [(0x31000000, 0xF8#8), (0x31000001, 0x07#8)]
    xfer := ⟨0x31000000#32, 0#32, 0x20000010#32, 3#32, con, true, false, 0x31000000#32, 0x20000010#32, n⟩ }

/-- An armed channel of a given session, with a given number of units left and source address. -/
def session (con srcc dstc : Word) (n : BitVec 20) (src : Addr) : State :=
  { streaming con n with xfer := { (streaming con n).xfer with srcc := srcc, dstc := dstc, csrc := src } }

/-- Trace of a result. -/
def trOf (r : Result) : Option (List Event) := (nextOf r).map (·.tr)

/-- Register writes of a result. -/
def rwOf (r : Result) : Option (List RegW) := (nextOf r).map (·.rw)

/-! ### One or two vectors an instruction -/

/-- The worked example of rule R81. -/
theorem test_entry : trOf (exec (.entry 0x3A#8 1#8 [0x05#8]) { at' .play p1 with tp := 2 }) =
    some [.dc false, .tx false 0x3A#8, .dc true, .tx true 0x05#8] := by decide
theorem test_entry_tp : (nextOf (exec (.entry 0x3A#8 1#8 [0x05#8]) { at' .play p1 with tp := 2 })).map (·.tp) = some 5 := by decide
theorem test_init : (nextOf (exec (.init 0x31000000#32) (State.resetWith (cfgOf p1)))).map (fun t => (t.ost, t.bh, t.xh, t.fbb)) =
    some (.pincfg, some 0, some 3, 0x31000000#32) := by decide
/-- V-O4. -/
theorem test_init_again : exec (.init 0#32) (at' .handoff p1) = .refused .reinit := rfl
/-- V-O6. -/
theorem test_write_byte : trOf (exec (.writeByte 0x12345655#32) { at' .handoff p1 with gpio := ⟨true, true, true, true⟩ }) =
    some [.tx true 0x55#8] := by decide
/-- V-O5. -/
theorem test_write_byte_streaming : exec (.writeByte 0x55#32) (streaming 0x8381C200#32 1#20) = .refused .writeWhileStreaming := rfl
theorem test_hcmd_none : nextOf (exec .hcmdNone State.reset) = some State.reset := rfl
theorem test_hcmd_reserved : nextOf (exec .hcmdReserved State.reset) = some State.reset := rfl
theorem test_step1 : trOf (exec .step1PinConfig { at' .pincfg p1 with sub := 1#2 }) = some [.dir .dc] := by decide
/-- V-B2 inside step 2: the mode is zero between the two writes (rule R46), and the second one ends the action. -/
theorem test_step2 : (nextOf (exec .step2BusBringup { at' .busup p1 with bus := ⟨0x18#8, true, 0#8, 0#8, 0#8⟩ })).map
    (fun t => (t.rw, t.bus.con, t.sub)) = some ([.busCon 0x00#8], 0x00#8, 0#2) ∧
    (nextOf (exec .step2BusBringup { at' .busup p1 with midAction := true })).map (fun t => (t.rw, t.bus.con, t.sub)) =
    some ([.busCon 0x18#8], 0x18#8, 1#2) := by decide
theorem test_step2_rate : rwOf (exec .step2BusBringup { at' .busup p1 with sub := 1#2 }) = some [.busPre 0x00#8] := by decide
/-- Rule R6: the value of DELAY_MS. -/
theorem test_delay_port : [0#2, 1#2, 2#2, 3#2].map (fun n =>
    (portsOf { at' .resetPulse p1 with sub := n, cfg := { cfgOf p1 with tHighMs := 120 } }).delayMs) = [none, some 100, none, some 120] := by
  decide
/-- V-O7. -/
theorem test_step3 : trOf (exec .step3ResetPulse { at' .resetPulse p1 with sub := 1#2 }) = some [.wait 100] := by decide
/-- The phase machine's second head on V-T3. -/
theorem test_step4 : (nextOf (exec .step4CommandPlayback { at' .play p1 with tp := 2 })).map (fun t => (t.ph, t.tp, t.rem, t.byte)) =
    some (.cmd, 4, 1#8, 0x3A#8) := by decide
/-- V-T9: the missing length byte stops a model, and nothing has been sent when the hardware reads it. -/
theorem test_step4_lone : exec .step4CommandPlayback (at' .play [0x11#8]) = .fault .tableOverrun ∧
    (nextOf (exec .step4CommandPlayback (overrunning .play [0x11#8]))).map (fun t => (t.malformed, t.rw)) = some (true, []) :=
  ⟨rfl, by decide⟩
/-- V-O8. -/
theorem test_step5 : (nextOf (exec .step5Window (at' .window p1))).map (fun t => (t.ost, t.tr)) = some (.dataMode, []) := by decide
/-- V-O9. -/
theorem test_step6 : trOf (exec .step6DataMode { at' .dataMode p1 with gpio := ⟨true, true, true, true⟩ }) = some [.dc true] := by decide
/-- The control word of the table under V-X12, reload on. -/
theorem test_step7 : rwOf (exec .step7SessionSetup { at' .xsetup p1 with sub := 2#2 }) = some [.xferCon 0x8381C200#32] := by decide
/-- V-X3 inside step 7, one write a step. -/
theorem test_step7_destination : rwOf (exec .step7SessionSetup { at' .xsetup p1 with sub := 1#2 }) = some [.xferDst 0x20000010#32] ∧
    rwOf (exec .step7SessionSetup { at' .xsetup p1 with sub := 1#2, midAction := true }) = some [.xferDstc 3#32] := by decide
theorem test_step8 : rwOf (exec .step8Trigger { at' .trigger p1 with xfer := { (at' .trigger p1).xfer with con := 0x8381C200#32 } }) =
    some [.xferTrig 2#32] := by decide
/-- P5b: a valid transfer handle and no bus. -/
theorem test_step8_no_bus : exec .step8Trigger { at' .trigger p1 with bh := none } = .refused .streamWithoutBus := rfl
theorem test_handoff : nextOf (exec .handoff (at' .handoff p1)) = some (at' .handoff p1) := rfl
/-- V-T3. -/
theorem test_play : (nextOf (exec (.play .recording) (at' .play p1))).map (·.calls) =
    some [.command 0x11#8, .command 0x3A#8, .parameter 0x05#8] := by decide
/-- V-T10: a model stops; on the hardware one drawn parameter is sent and `TP = 6`. -/
theorem test_play_overrun :
    exec (.play .orchestrator) (at' .play [0x11#8, 0x00#8, 0x3A#8, 0x02#8, 0x05#8]) = .fault .tableOverrun ∧
    (nextOf (exec (.play .orchestrator) (overrunning .play [0x11#8, 0x00#8, 0x3A#8, 0x02#8, 0x05#8]))).map
      (fun t => (t.malformed, t.tp)) = some (true, 6) := ⟨rfl, by decide⟩
/-- V-B1. -/
theorem test_select_bus : [(-1 : Int), 0, 1, 2, 255].map (fun ch => (nextOf (exec (.selectBus ch) State.reset)).map (·.result)) =
    [none, some 0, some 1, none, none].map (fun h => some (.handle h)) := by decide
/-- V-B2. -/
theorem test_configure : rwOf (exec (.configure (some 0) 0x18#8) State.reset) = some [.busCon 0x00#8, .busCon 0x18#8] := by decide
/-- V-P4 and V-P11. -/
theorem test_set_clock_rate : rwOf (exec (.setClockRate (some 0) 10000000) State.reset) = some [.busPre 0x01#8] ∧
    rwOf (exec (.setClockRate (some 0) 97277) State.reset) = some [.busPre 0xFF#8] := by decide
/-- V-P12, V-P13 and V-P16. -/
theorem test_set_clock_rate_range : exec (.setClockRate (some 0) 97276) State.reset = .refused .prescalerRange ∧
    exec (.setClockRate (some 0) 25000001) State.reset = .refused .prescalerRange ∧
    exec (.setClockRate (some 0) 0) State.reset = .refused .prescalerRange := ⟨rfl, rfl, rfl⟩
theorem test_read_prescaler : (nextOf (exec (.readPrescaler (some 0)) { State.reset with bus := ⟨0#8, true, 0#8, 0x18#8, 0#8⟩ })).map
    (·.result) = some (.byte 0x18#8) := by decide
/-- V-B4. -/
theorem test_transfer_byte_none : (nextOf (exec (.transferByte none 0x11#8) State.reset)).map (·.result) = some (.byte 0x00#8) := by decide
/-- V-B5's events. -/
theorem test_transfer_byte : trOf (exec (.transferByte (some 0) 0xA5#8) { State.reset with gpio := ⟨true, true, true, true⟩ }) =
    some [.tx true 0xA5#8] := by decide
/-- V-B8. -/
theorem test_write_only : rwOf (exec (.writeOnly (some 0) 0x05#8) State.reset) = some [.busDat 0x05#8] := by decide
/-- V-B7. -/
theorem test_write_only_hung : (nextOf (exec (.writeOnly (some 0) 0x05#8) (hung .handoff))).map (fun t => (t.bph, t.bus.ready)) =
    some (.w2, false) := by decide
/-- Decision D14: the received byte stays in the data register until the next shift completes. -/
theorem test_bus_shift : (nextOf (exec (.busShift (.start 0x11#8)) { State.reset with bus := ⟨0#8, true, 0x77#8, 0#8, 0#8⟩ })).map
    (fun t => (t.bus.ready, t.bus.shift, t.bus.dat)) = some (false, 0x11#8, 0x77#8) := by decide
theorem test_bus_shift_rearm : (nextOf (exec (.busShift .rearm) { State.reset with bus := ⟨0#8, false, 1#8, 0#8, 1#8⟩ })).map
    (fun t => (t.bus.ready, t.bus.dat)) = some (true, 1#8) := by decide
/-- V-X1. -/
theorem test_select_xfer : [(-1 : Int), 0, 3, 4].map (fun ch => (nextOf (exec (.selectXfer ch) State.reset)).map (·.result)) =
    [none, some 0, some 3, none].map (fun h => some (.handle h)) := by decide
/-- V-X2. -/
theorem test_set_source : rwOf (exec (.setSource (some 3) 0x31000000#32 0#32) State.reset) =
    some [.xferSrc 0x31000000#32, .xferSrcc 0#32] := by decide
/-- V-X3. -/
theorem test_set_destination : rwOf (exec (.setDestination (some 3) 0x20000010#32 3#32) State.reset) =
    some [.xferDst 0x20000010#32, .xferDstc 3#32] := by decide
/-- V-X4. -/
theorem test_set_control : (nextOf (exec (.setControl (some 3) 0x8381C200#32) State.reset)).map
    (fun t => (ctlCount t.xfer.con, ctlReqsrc t.xfer.con, t.xfer.trigOn)) = some (115200#20, 3#3, false) := by decide
/-- V-X5 and V-X6. -/
theorem test_trigger :
    rwOf (exec (.trigger (some 3)) { State.reset with xfer := { State.reset.xfer with con := 0x8381C200#32 } }) = some [.xferTrig 2#32] ∧
    rwOf (exec (.trigger (some 3)) { State.reset with xfer := { State.reset.xfer with con := 0x8301C200#32 } }) = some [.xferTrig 3#32] := by
  decide
/-- V-X9. -/
theorem test_xfer_unit : (nextOf (exec .xferUnit (streaming 0x8381C200#32 115200#20))).map
    (fun t => (t.tr, t.bus.ready, t.xfer.csrc, t.xfer.cdst, t.xfer.ccnt)) =
    some ([.tx true 0xF8#8], false, 0x31000001#32, 0x20000010#32, 115199#20) := by decide
/-- V-X10 and V-X11. -/
theorem test_xfer_unit_last :
    (nextOf (exec .xferUnit (streaming 0x8381C200#32 1#20))).map (fun t => (t.xfer.csrc, t.xfer.ccnt, t.xfer.trigOn)) =
      some (0x31000000#32, 115200#20, true) ∧
    (nextOf (exec .xferUnit (streaming 0x83C1C200#32 1#20))).map (fun t => (t.xfer.ccnt, t.xfer.trigOn)) = some (0#20, false) := by decide
/-- U10: a unit at the last address is moved if it is the pass's last, and refused if the pass goes on beyond it. -/
theorem test_xfer_unit_wraps :
    (nextOf (exec .xferUnit (session 0x8381C200#32 0#32 3#32 1#20 0xFFFFFFFF#32))).map (·.xfer.csrc) = some 0x31000000#32 ∧
    exec .xferUnit (session 0x8381C200#32 0#32 3#32 2#20 0xFFFFFFFF#32) = .refused .sourceWraps := ⟨by decide, rfl⟩
theorem test_gpio_output : (nextOf (exec (.gpioOutput .rst) State.reset)).map (·.gpio) = some ⟨true, false, false, false⟩ := by decide
theorem test_gpio_set : (nextOf (exec (.gpioSet .dc true) State.reset)).map (fun t => (t.gpio, t.tr)) =
    some (⟨false, false, false, true⟩, [.dc true]) := by decide
theorem test_delay : trOf (exec (.delayMs 100) State.reset) = some [.wait 100] ∧ trOf (exec (.delayMs 100) delayed) = some [] := by decide
theorem test_write_command : trOf (exec (.writeCommand 0x11#8) { at' .play p1 with gpio := ⟨true, true, true, true⟩ }) =
    some [.dc false, .tx false 0x11#8] := by decide
theorem test_write_parameter : trOf (exec (.writeParameter 0x05#8) (at' .play p1)) = some [.dc true, .tx true 0x05#8] := by decide
theorem test_table_read : (nextOf (exec (.tableRead 4) (at' .idle p1))).map (fun t => (t.result, t.malformed)) =
    some (.byte 0x05#8, false) := by decide
/-- Offset `L` is the first past the end. -/
theorem test_table_read_past : exec (.tableRead 5) (at' .idle p1) = .fault .tableOverrun ∧
    (nextOf (exec (.tableRead 5) (overrunning .idle p1))).map (·.malformed) = some true := ⟨rfl, by decide⟩
/-- V-O10. -/
theorem test_reset : (nextOf (exec .reset (streaming 0x8381C200#32 7#20))).map (fun t => (t.ost, t.xfer.trigOn, t.bus.ready)) =
    some (.idle, false, true) := by decide

/-! ### A placed word runs as the next instruction -/

theorem test_fetch_entry : trOf (step (State.reset.withFetchWord 16 0x0011)) = trOf (exec (.entry 0x11#8 0#8 [])
    (State.reset.withFetchWord 16 0x0011)) := rfl
theorem test_fetch_host : (nextOf (step (State.reset.withFetchWord 2 1))).map (·.ost) = some .pincfg := by decide
theorem test_fetch_step : (nextOf (step (State.reset.withFetchWord 4 5))).map (·.ost) = some .dataMode := by decide

/-! ### Agents -/

/-- V-X6: a software request is refused as soon as nothing else is left to do. -/
theorem test_software_request : step { State.reset with xfer := { State.reset.xfer with trigOn := true, trigSwreq := true } } =
    .refused .softwareTrigger := rfl
/-- A delay holds the thread until ENV answers it (rule R158). -/
theorem test_answer : nextOf (step delayed) = some delayed ∧
    trOf (core.run 2 { delayed with agenda := [.env, .orch] }) = some [.wait 100] := by decide

/-! ### A state for the hypotheses of each statement -/

/-- A busy bus. -/
def busy (s : State) : State := { s with bus := { s.bus with ready := false } }

/-- The same configuration with two other numbers in it. -/
def rated (pclk hz : Nat) (o : Ost) : State := { at' o p1 with cfg := { cfgOf p1 with pclk := pclk, targetHz := hz }, sub := 1#2 }

/-- A configuration with a given count. -/
def counted (n : Nat) : Config := { cfgOf p1 with cols := n, rows := 1, bpp := 1 }

theorem witness_InitLatchesAndEntersStepOne : State.reset.ost = .idle := rfl

theorem witness_HostCommandsRefusedOutsideTheirPhase :
    (at' .pincfg p1).ost ≠ .idle ∧ (at' .idle p1).ost ≠ .handoff ∧ (at' .trigger p1).ost ≠ .handoff ∧
    ((streaming 0x8381C200#32 1#20).ost = .handoff ∧ (streaming 0x8381C200#32 1#20).xfer.trigOn = true) ∧
    ((hung .handoff).ost = .handoff ∧ (hung .handoff).xfer.trigOn = false ∧ { hung .handoff with bph := .w2 }.bph ≠ .idle) := by decide

theorem witness_WriteByteSendsOneByte :
    ((at' .handoff p1).ost = .handoff ∧ (at' .handoff p1).xfer.trigOn = false ∧ (at' .handoff p1).bph = .idle ∧
      (at' .handoff p1).bh = some 0 ∧ (at' .handoff p1).cfg.busResponsive = true) ∧
    { at' .handoff p1 with bh := none }.bh = none := by decide

theorem witness_PinConfigDrivesBothLines : (at' .pincfg p1).ost = .pincfg ∧ (at' .pincfg p1).sub = 0#2 ∧
    { at' .pincfg p1 with sub := 1#2 }.sub = 1#2 := by decide

theorem witness_BusBringupConfiguresThenSetsRate :
    ((at' .busup p1).ost = .busup ∧ (at' .busup p1).sub = 0#2 ∧ (at' .busup p1).bh = some 0) ∧
    ((rated 50000000 25000000 .busup).sub = 1#2 ∧
      50000000 / 2 / (rated 50000000 25000000 .busup).cfg.targetHz = 1) ∧
    ((rated 50000000 97277 .busup).sub = 1#2 ∧ 50000000 / 2 / (rated 50000000 97277 .busup).cfg.targetHz = 256) ∧
    { at' .busup p1 with bh := none }.bh = none ∧ { rated 1 1 .busup with bh := none }.sub = 1#2 ∧
    (at' .busup p1).midAction = false ∧ { at' .busup p1 with midAction := true }.midAction = true := by decide

theorem witness_ResetPulseIsLowWaitHighWait : (at' .resetPulse p1).ost = .resetPulse ∧
    [0#2, 1#2, 2#2, 3#2].all (fun k => { at' .resetPulse p1 with sub := k }.sub == k) = true ∧
    (cfgOf p1).delaysEnd = true ∧ delayed.cfg.delaysEnd = false ∧ delayed.delayDone = false ∧
    { delayed with delayDone := true }.delayDone = true := by decide

theorem witness_DelayOnlyRecordsTheWait : (cfgOf p1).delaysEnd = true ∧ delayed.cfg.delaysEnd = false ∧ delayed.delayDone = false := by decide

theorem witness_WindowPassesAndDataModeRaisesTheLine : (at' .window p1).ost = .window ∧ (at' .dataMode p1).ost = .dataMode := by decide

theorem witness_SessionSetupProgramsTheChannel :
    (at' .xsetup p1).ost = .xsetup ∧ (at' .xsetup p1).xh = some 3 ∧ (at' .xsetup p1).sub = 0#2 ∧ (at' .xsetup p1).bh = some 0 ∧
    { at' .xsetup p1 with bh := none, sub := 1#2 }.bh = none ∧ { at' .xsetup p1 with sub := 2#2 }.sub = 2#2 ∧
    ctlWord (at' .xsetup p1).cfg = some 0x8381C200#32 ∧ (at' .xsetup p1).midAction = false ∧
    { at' .xsetup p1 with midAction := true }.midAction = true := by decide

theorem witness_NoTransferHandleSkipsTheSession : { at' .xsetup p1 with xh := none }.xh = none ∧ (at' .xsetup p1).ost = .xsetup ∧
    { at' .trigger p1 with xh := none }.ost = .trigger := by decide

theorem witness_TriggerArmsAndHandsOff : (at' .trigger p1).ost = .trigger ∧ (at' .trigger p1).xh = some 3 ∧
    (at' .trigger p1).bh = some 0 ∧ (at' .trigger p1).xfer.trigOn = false ∧ (at' .handoff p1).ost = .handoff := by decide

theorem witness_BringUpRefusals :
    ((rated 50000000 97276 .busup).ost = .busup ∧ (rated 50000000 97276 .busup).bh = some 0 ∧ 256 < 50000000 / 2 / 97276) ∧
    50000000 / 2 / (rated 50000000 25000001 .busup).cfg.targetHz = 0 ∧ 50000000 / 2 / (rated 50000000 0 .busup).cfg.targetHz = 0 ∧
    ({ at' .xsetup p1 with cfg := counted 0, sub := 2#2 }.xh = some 3 ∧ (counted 0).cols * (counted 0).rows * (counted 0).bpp = 0) ∧
    2 ^ 20 ≤ (counted (2 ^ 20)).cols * (counted (2 ^ 20)).rows * (counted (2 ^ 20)).bpp ∧
    ((at' .trigger p1).xh = some 3 ∧ { at' .trigger p1 with bh := none }.bh = none) ∧
    ((streaming 0x8381C200#32 1#20).xfer.trigOn = true ∧ { streaming 0x8381C200#32 1#20 with ost := .trigger }.ost = .trigger) ∧
    (1 < (2#2).toNat ∧ 2 < (3#2).toNat ∧ { at' .pincfg p1 with sub := 2#2 }.sub = 2#2 ∧ { at' .xsetup p1 with sub := 3#2 }.sub = 3#2) ∧
    (Ost.play ≠ .idle ∧ (at' .handoff p1).ost ≠ .play) := by decide

theorem witness_OperandWordsFollowTheirFormulas :
    (1 ≤ (counted 1).cols * (counted 1).rows * (counted 1).bpp ∧
      (counted (2 ^ 20 - 1)).cols * (counted (2 ^ 20 - 1)).rows * (counted (2 ^ 20 - 1)).bpp < 2 ^ 20) ∧
    (counted 0).cols * (counted 0).rows * (counted 0).bpp = 0 ∧
    2 ^ 20 ≤ (counted (2 ^ 20)).cols * (counted (2 ^ 20)).rows * (counted (2 ^ 20)).bpp := by decide

theorem witness_ConfigureWritesZeroThenMode : selectBus State.reset.cfg State.reset.cfg.busCh = some 0 := by decide

theorem witness_SetClockRateWritesTheQuotientLessOne :
    selectBus State.reset.cfg State.reset.cfg.busCh = some 0 ∧ 0 < 25000000 ∧ State.reset.cfg.pclk / 2 / 25000000 = 1 ∧
    State.reset.cfg.pclk / 2 / 97277 = 256 := by decide

theorem witness_PrescalerRangeAndRate :
    selectBus State.reset.cfg State.reset.cfg.busCh = some 0 ∧ State.reset.cfg.pclk / 2 < 25000001 ∧
    256 < State.reset.cfg.pclk / 2 / 97276 := by decide

theorem witness_PrescalerReadsBack : selectBus State.reset.cfg State.reset.cfg.busCh = some 0 ∧
    ∃ t, exec (.setClockRate (some 0) 25000000) State.reset = .next t := ⟨rfl, _, rfl⟩

theorem witness_ByteTransferSendsAndReturns : selectBus (at' .handoff p1).cfg (at' .handoff p1).cfg.busCh = some 0 ∧
    (at' .handoff p1).bph = .idle ∧ (at' .handoff p1).cfg.busResponsive = true := by decide

theorem witness_TransferStaysInAWaitUntilReady : selectBus (hung .handoff).cfg (hung .handoff).cfg.busCh = some 0 ∧
    (hung .handoff).bph = .idle ∧ (hung .handoff).cfg.busResponsive = false ∧ (hung .handoff).bus.ready = true ∧
    (busy (hung .handoff)).bph = .idle ∧ (busy (hung .handoff)).bus.ready = false ∧ { hung .handoff with bph := .w1 }.bph = .w1 ∧
    { hung .handoff with bph := .w2 }.bph = .w2 := by decide

theorem witness_OtherChannelsAndOverlapsAreRefused : selectBus State.reset.cfg State.reset.cfg.busCh ≠ some 1 ∧
    selectXfer State.reset.cfg.xferCh ≠ some 2 ∧ { hung .play with bph := .w2 }.bph ≠ .idle := by decide

theorem witness_ShifterStartsCompletesAndRearms : State.reset.bus.ready = true ∧ (busy State.reset).bus.ready = false := by decide

theorem witness_SourceAndDestinationTakeTwoWrites : selectXfer State.reset.cfg.xferCh = some 3 := by decide

theorem witness_SetControlIsOneWrite : selectXfer State.reset.cfg.xferCh = some 3 := by decide

theorem witness_TriggerLoadsTheWorkingRegisters : selectXfer State.reset.cfg.xferCh = some 3 ∧ State.reset.xfer.trigOn = false ∧
    ctlHardware State.reset.xfer.con = false ∧ ctlHardware 0x8381C200#32 = true ∧
    (streaming 0x8381C200#32 1#20).xfer.trigOn = true := by decide

/-- The streaming state is one in which a unit may move, with any number of units left but none. -/
theorem unitReady_streaming (con : Word) (n : BitVec 20) (hn : n ≠ 0#20) (h1 : ctlHandshake con = true) (h2 : ctlHardware con = true)
    (h3 : ctlReqsrc con = 3#3) (h4 : ctlUsize con = 0#2) : UnitReady (streaming con n) :=
  ⟨⟨rfl, rfl⟩, show (0 : Int) ≤ 0 ∧ (0 : Int) < 2 by decide, ⟨h1, h2, h3, h4⟩, rfl, hn,
    ⟨show locPeripheral 0#32 = false by decide, show locPeripheral 3#32 = true by decide, rfl⟩, by simp [sourceAtEnd, streaming, at']⟩

theorem witness_UnitMovesOneByte : UnitReady (streaming 0x8381C200#32 2#20) ∧ (streaming 0x8381C200#32 2#20).xfer.ccnt ≠ 1#20 :=
  ⟨unitReady_streaming _ _ (by decide) (by decide) (by decide) (by decide) (by decide), by decide⟩

theorem witness_LastUnitReloadsOrDisables :
    (UnitReady (streaming 0x8381C200#32 1#20) ∧ (streaming 0x8381C200#32 1#20).xfer.con.getLsbD 22 = false) ∧
    (UnitReady (streaming 0x83C1C200#32 1#20) ∧ (streaming 0x83C1C200#32 1#20).xfer.con.getLsbD 22 = true) :=
  ⟨⟨unitReady_streaming _ _ (by decide) (by decide) (by decide) (by decide) (by decide), by decide⟩,
    ⟨unitReady_streaming _ _ (by decide) (by decide) (by decide) (by decide) (by decide), by decide⟩⟩

/-- The selected Bus Channel is the first that is not supported. -/
def noBus : State := { streaming 0x8381C200#32 1#20 with cfg := { cfgOf p1 with busCh := 2 } }

/-- Each clause at a state: not armed, a software request, no bus, demand mode, no request (a busy bus, a software trigger's word, another
requester), unit size, count, source, destination (by its control and by its address), and the last address. -/
theorem witness_UnitWaitsOrIsRefused :
    State.reset.xfer.trigOn = false ∧
    ({ (streaming 0x8301C200#32 1#20).xfer with trigSwreq := true }.trigOn = true ∧
      { (streaming 0x8301C200#32 1#20).xfer with trigSwreq := true }.trigSwreq = true) ∧
    (noBus.xfer.trigOn = true ∧ noBus.xfer.trigSwreq = false ∧ ¬(0 ≤ noBus.cfg.busCh ∧ noBus.cfg.busCh < noBus.cfg.nBus)) ∧
    [streaming 0x0381C200#32 1#20, busy (streaming 0x8381C200#32 1#20), streaming 0x8301C200#32 1#20, streaming 0x8281C200#32 1#20,
      streaming 0x8391C200#32 1#20, streaming 0x8381C200#32 0#20, session 0x8381C200#32 2#32 3#32 1#20 0#32,
      session 0x8381C200#32 0#32 1#32 1#20 0#32, session 0x8381C200#32 0#32 3#32 2#20 0xFFFFFFFF#32].all (fun s =>
        s.xfer.trigOn && !s.xfer.trigSwreq && decide (0 ≤ s.cfg.busCh ∧ s.cfg.busCh < s.cfg.nBus)) = true ∧
    (streaming 0x0381C200#32 1#20).xfer.con.getLsbD 31 = false ∧
    ((busy (streaming 0x8381C200#32 1#20)).xfer.con.getLsbD 31 = true ∧ (busy (streaming 0x8381C200#32 1#20)).bus.ready = false) ∧
    ((streaming 0x8301C200#32 1#20).xfer.con.getLsbD 31 = true ∧ (streaming 0x8301C200#32 1#20).xfer.con.getLsbD 23 = false) ∧
    ((streaming 0x8281C200#32 1#20).xfer.con.getLsbD 31 = true ∧
      (streaming 0x8281C200#32 1#20).xfer.con.extractLsb' 24 3 ≠ (cfgOf p1).reqsrcBus) ∧
    [streaming 0x8391C200#32 1#20, streaming 0x8381C200#32 0#20, session 0x8381C200#32 2#32 3#32 1#20 0#32,
      session 0x8381C200#32 0#32 1#32 1#20 0#32, session 0x8381C200#32 0#32 3#32 2#20 0xFFFFFFFF#32].all (fun s =>
        s.xfer.con.getLsbD 31 && s.bus.ready && s.xfer.con.getLsbD 23 && (s.xfer.con.extractLsb' 24 3 == s.cfg.reqsrcBus)) = true ∧
    (streaming 0x8391C200#32 1#20).xfer.con.extractLsb' 20 2 ≠ 0#2 ∧
    ((streaming 0x8381C200#32 0#20).xfer.con.extractLsb' 20 2 = 0#2 ∧ (streaming 0x8381C200#32 0#20).xfer.ccnt = 0#20) ∧
    ((session 0x8381C200#32 2#32 3#32 1#20 0#32).xfer.con.extractLsb' 20 2 = 0#2 ∧
      (session 0x8381C200#32 2#32 3#32 1#20 0#32).xfer.ccnt ≠ 0#20 ∧ (session 0x8381C200#32 2#32 3#32 1#20 0#32).xfer.srcc.getLsbD 1 = true) ∧
    ((session 0x8381C200#32 0#32 1#32 1#20 0#32).xfer.srcc.getLsbD 1 = false ∧
      (session 0x8381C200#32 0#32 1#32 1#20 0#32).xfer.dstc.getLsbD 1 = false) ∧
    { (streaming 0x8381C200#32 1#20).xfer with cdst := 0x20000011#32 }.cdst ≠ (cfgOf p1).busDatAddr ∧
    ((session 0x8381C200#32 0#32 3#32 2#20 0xFFFFFFFF#32).xfer.dstc.getLsbD 1 = true ∧
      (session 0x8381C200#32 0#32 3#32 2#20 0xFFFFFFFF#32).xfer.cdst = (cfgOf p1).busDatAddr ∧
      (session 0x8381C200#32 0#32 3#32 2#20 0xFFFFFFFF#32).xfer.srcc.getLsbD 0 = false ∧
      (session 0x8381C200#32 0#32 3#32 2#20 0xFFFFFFFF#32).xfer.csrc = 0xFFFFFFFF#32 ∧
      (session 0x8381C200#32 0#32 3#32 2#20 0xFFFFFFFF#32).xfer.ccnt ≠ 1#20) := by decide

theorem witness_EntrySendsTagThenParameters : [0x05#8].length = (1#8).toNat ∧ ([] : List Byte).length = (0#8).toNat ∧
    (List.replicate 255 0x05#8).length = (255#8).toNat ∧ (at' .play p1).bph = .idle ∧ (at' .play p1).bh = some 0 ∧
    (at' .play p1).cfg.busResponsive = true := ⟨rfl, rfl, List.length_replicate .., rfl, rfl, rfl⟩

theorem witness_EntryWithoutBusMovesOnlyTheLine : [0x05#8].length = (1#8).toNat ∧ { at' .play p1 with bh := none }.bph = .idle ∧
    { at' .play p1 with bh := none }.bh = none := by decide

theorem witness_PlayCallsExactlyTheParsedEntries :
    parseTable (at' .play p1).cfg.table = some [(0x11#8, []), (0x3A#8, [0x05#8])] ∧ (at' .play p1).bph = .idle := by decide

theorem witness_PlayLeavesExactlyTheParsedTraces :
    parseTable (at' .play p1).cfg.table = some [(0x11#8, []), (0x3A#8, [0x05#8])] ∧ (at' .play p1).bph = .idle ∧
    (at' .play p1).bh = some 0 ∧ (at' .play p1).bus.ready = true ∧ (at' .play p1).cfg.busResponsive = true ∧
    { at' .play p1 with bh := none }.bh = none := by decide

theorem witness_SinksSetTheLineThenSend : (at' .play p1).bph = .idle ∧ (at' .play p1).bh = some 0 ∧
    (at' .play p1).cfg.busResponsive = true ∧ { at' .play p1 with bh := none }.bh = none := by decide

theorem witness_TableReadInsideAndPastTheEnd : (at' .play p1).cfg.table[4]? = some 0x05#8 ∧ (at' .play p1).cfg.table.length ≤ 5 ∧
    (at' .play p1).cfg.overrunStops = true ∧ (overrunning .play p1).cfg.overrunStops = false := by decide

theorem witness_PlaybackTransitions :
    (at' .play p1).ost = .play ∧ (at' .play p1).bh = some 0 ∧ (at' .play p1).bph = .idle ∧ (at' .play p1).ph = .head ∧
    (at' .play p1).cfg.table.length ≤ { at' .play p1 with tp := 5 }.tp ∧
    ((at' .play p1).cfg.table[2]? = some 0x3A#8 ∧ (at' .play p1).cfg.table[3]? = some 0x01#8) ∧
    ({ at' .play p1 with ph := .param, rem := 1#8, tp := 4 }.rem ≠ 0#8 ∧ (at' .play p1).cfg.table[4]? = some 0x05#8) ∧
    ({ at' .play p1 with bph := .w1 }.bph = .w1 ∧ (at' .play p1).bus.ready = true) ∧
    { at' .play p1 with bph := .w2 }.bph = .w2 ∧
    (busy { at' .play p1 with bph := .w2 }).bus.ready = false ∧ { at' .play p1 with bh := none }.bh = none := by decide

theorem witness_OverrunInPlayback :
    (at' .play [0x11#8]).cfg.table[0]? = some 0x11#8 ∧ (at' .play [0x11#8]).tp + 1 = (at' .play [0x11#8]).cfg.table.length ∧
    (at' .play [0x11#8]).ost = .play ∧ (at' .play [0x11#8]).bh = some 0 ∧ (at' .play [0x11#8]).bph = .idle ∧
    (at' .play [0x11#8]).ph = .head ∧ (at' .play [0x11#8]).cfg.overrunStops = true ∧
    (overrunning .play [0x11#8]).cfg.overrunStops = false ∧
    ({ at' .play p1 with ph := .param, rem := 1#8, tp := 5 }.rem ≠ 0#8 ∧
      (at' .play p1).cfg.table.length ≤ { at' .play p1 with ph := .param, rem := 1#8, tp := 5 }.tp) := by decide

theorem witness_EntryIsItsTransitions :
    ((at' .play p1).ost = .play ∧ (at' .play p1).ph = .head ∧ (at' .play p1).bph = .idle ∧ (at' .play p1).bh = some 0 ∧
      (at' .play p1).bus.ready = true ∧ (at' .play p1).cfg.busResponsive = true) ∧
    decodeEntry ((at' .play p1).cfg.table.drop (at' .play p1).tp) = .ok (.entry 0x11#8 0#8 [], [0x3A#8, 0x01#8, 0x05#8]) ∧
    ∃ t, exec (.entry 0x11#8 0#8 []) (at' .play p1) = .next t := ⟨by decide, rfl, _, rfl⟩

theorem witness_DecodeOfEncode : (Instr.entry 0x3A#8 1#8 [0x05#8]).wellFormed = true ∧
    encode (.entry 0x3A#8 1#8 [0x05#8]) = some (.table [0x3A#8, 1#8, 0x05#8]) ∧
    Instr.step8Trigger.wellFormed = true ∧ encode .step8Trigger = some (.ost 8#4) ∧
    (Instr.writeByte 0x55#32).wellFormed = true ∧ encode (.writeByte 0x55#32) = some (.hcmd 2#2 0x55#32) := by decide

theorem witness_ParseEquations : p1.length ≤ 5 ∧ (p1[2]? = some 0x3A#8 ∧ p1[3]? = some 0x01#8 ∧ 2 + 2 + (0x01#8).toNat ≤ p1.length) ∧
    (0 < [0x11#8].length ∧ [0x11#8][1]? = none) ∧
    (0 < [0x3A#8, 0x01#8].length ∧ [0x3A#8, 0x01#8][1]? = some 0x01#8 ∧ [0x3A#8, 0x01#8].length < 0 + 2 + (0x01#8).toNat) ∧
    parseTable p1 = some [(0x11#8, []), (0x3A#8, [0x05#8])] := by decide

theorem witness_StepRunsTheDecodedInstruction :
    ((at' .play p1).agenda = [] ∧ (at' .play p1).ost = .play ∧ (at' .play p1).ph = .head ∧ (at' .play p1).bph = .idle ∧
      { at' .play p1 with tp := 2 }.tp < (at' .play p1).cfg.table.length) ∧
    decode (.table ((at' .play p1).cfg.table.drop 2)) = .ok (.entry 0x3A#8 1#8 [0x05#8], []) ∧
    ((at' .trigger p1).ost ≠ .play ∧ (at' .trigger p1).ost ≠ .handoff ∧ threadWaits (at' .trigger p1) = false) ∧
    decode (.ost (ostCode (at' .trigger p1).ost)) = .ok (.step8Trigger, []) ∧
    decode (.hcmd 1#2 0x31000000#32) = .ok (.init 0x31000000#32, []) := ⟨by decide, rfl, by decide, rfl, rfl⟩

theorem witness_StepRunsTheAgents :
    ((busy (at' .handoff p1)).agenda = [] ∧ (busy (at' .handoff p1)).ost = .handoff ∧ (busy (at' .handoff p1)).bph = .idle ∧
      (busy (at' .handoff p1)).bus.ready = false ∧ (busy (at' .handoff p1)).cfg.busResponsive = true) ∧
    ((streaming 0x8381C200#32 2#20).agenda = [] ∧ UnitReady (streaming 0x8381C200#32 2#20)) ∧
    (State.reset.ost = .idle ∧ State.reset.bph = .idle ∧ State.reset.bus.ready = true ∧ State.reset.xfer.trigOn = false) ∧
    ({ State.reset with agenda := [.bus] }.agenda = [.bus] ∧ { State.reset with agenda := [.xfer] }.agenda = [.xfer] ∧
      { State.reset with agenda := [.reset] }.agenda = [.reset]) ∧
    ({ delayed with agenda := [.env] }.agenda = [.env] ∧ delayed.ost = .resetPulse ∧ delayed.sub = 1#2 ∧
      (at' .trigger p1).ost ≠ .resetPulse ∧ { at' .trigger p1 with agenda := [.orch] }.agenda = [.orch] ∧
      (at' .trigger p1).ost ≠ .handoff ∧ decode (.ost (ostCode (at' .trigger p1).ost)) = .ok (.step8Trigger, []) ∧
      { hung .handoff with bph := .w2 }.ost = .handoff ∧ { hung .handoff with bph := .w2 }.bph ≠ .idle) ∧
    (threadActive (at' .handoff p1) = false ∧
      { (at' .handoff p1).xfer with trigOn := true, trigSwreq := true }.trigSwreq = true ∧
      (busy (at' .handoff p1)).xfer.trigSwreq = false) :=
  ⟨by decide, ⟨rfl, unitReady_streaming _ _ (by decide) (by decide) (by decide) (by decide) (by decide)⟩, by decide, by decide,
    by decide, by decide⟩

theorem witness_HungThreadNeverAdvances :
    (busy { hung .play with bph := .w2 }).agenda = [] ∧ (busy { hung .play with bph := .w2 }).ost = .play ∧
    (busy { hung .play with bph := .w2 }).bph ≠ .idle ∧ (busy { hung .play with bph := .w2 }).bus.ready = false ∧
    (busy { hung .play with bph := .w2 }).cfg.busResponsive = false ∧ (busy (hung .play)).xfer.trigSwreq = false ∧
    (delayed.agenda = [] ∧ delayed.xfer.trigSwreq = false ∧ delayed.ost = .resetPulse ∧ delayed.sub = 1#2 ∧
      { delayed with sub := 3#2 }.sub = 3#2 ∧ delayed.cfg.delaysEnd = false ∧ delayed.delayDone = false ∧ delayed.bus.ready = true ∧
      delayed.xfer.trigOn = false) := by decide

theorem witness_StepsKeepMemoryCanonical :
    (memWf (streaming 0x8381C200#32 2#20).mem = true ∧ ∃ t, step (streaming 0x8381C200#32 2#20) = .next t) ∧
    { streaming 0x8381C200#32 2#20 with agenda := [.hostWrite 0xFFFFFFFF#32 1#8] }.ost = .handoff ∧ State.reset.ost = .idle ∧
    (at' .trigger p1).ost ≠ .idle ∧ (at' .trigger p1).ost ≠ .handoff := ⟨⟨by decide, _, rfl⟩, rfl, rfl, by decide⟩

theorem witness_StepsKeepControlInvariant : ControlInv State.reset ∧ ∃ t, step { State.reset with agenda := [.host 1#2 0#32] } = .next t :=
  ⟨by constructor <;> decide, _, rfl⟩

theorem witness_OrchestratorIsStrictlyForward :
    (∃ t, step (at' .window p1) = .next t) ∧ (∃ t, step (at' .handoff p1) = .next t) ∧
    ∃ t, step { at' .handoff p1 with agenda := [.reset] } = .next t := ⟨⟨_, rfl⟩, ⟨_, rfl⟩, _, rfl⟩

/-- Handed off with a shift in progress: a state of a run, since its lines, handles and table pointer are those of a run's end. -/
def shifting : State := busy { streaming 0x8381C200#32 2#20 with tp := 5 }

theorem witness_LineIsStableOverAShift : ControlInv shifting ∧ shifting.bus.ready = false ∧ shifting.agenda.head? ≠ some .reset ∧
    ∃ t, step shifting = .next t := ⟨by constructor <;> decide, by decide, by decide, _, rfl⟩

theorem witness_SessionIsFixedAfterHandoff : shifting.ost = .handoff ∧ shifting.agenda.head? ≠ some .reset ∧
    ∃ t, step shifting = .next t := ⟨by decide, by decide, _, rfl⟩

theorem witness_TracesGrowAndMalformedSticks :
    (Instr.delayMs 1 ≠ .reset ∧ ∃ t, exec (.delayMs 1) { State.reset with malformed := true } = .next t) ∧
    { State.reset with malformed := true }.malformed = true ∧ (footprint (.delayMs 1)).malformed = false := ⟨⟨by decide, _, rfl⟩, rfl, rfl⟩

theorem witness_EachBlockHasItsWriters : (∃ t, exec (.selectBus 0) State.reset = .next t) ∧ footprint (.selectBus 0) = Footprint.empty ∧
    (Instr.selectBus 0 ≠ .reset ∧ ∀ fb, Instr.selectBus 0 ≠ .init fb) := ⟨⟨_, rfl⟩, rfl, by decide, fun _ h => by cases h⟩

theorem witness_BringUpReachesHandoff :
    ControlInv (State.resetWith (cfgOf p1)) ∧ (State.resetWith (cfgOf p1)).ost = .idle ∧ (State.resetWith (cfgOf p1)).agenda = [] ∧
    configLegal (cfgOf p1) = true ∧ (cfgOf p1).busResponsive = true ∧ (cfgOf p1).delaysEnd = true ∧
    parseTable (cfgOf p1).table = some [(0x11#8, []), (0x3A#8, [0x05#8])] :=
  ⟨by constructor <;> decide, rfl, rfl, by decide, rfl, rfl, by decide⟩

theorem witness_StreamSendsMemoryInOrder :
    (streaming 0x8381C200#32 3#20).ost = .handoff ∧ (streaming 0x8381C200#32 3#20).bph = .idle ∧
    (streaming 0x8381C200#32 3#20).cfg.busResponsive = true ∧ UnitReady (streaming 0x8381C200#32 3#20) ∧
    incFixed (streaming 0x8381C200#32 3#20).xfer.srcc = false ∧ incFixed (streaming 0x8381C200#32 3#20).xfer.dstc = true ∧
    2 < (streaming 0x8381C200#32 3#20).xfer.ccnt.toNat ∧ dirmodeSuits (streaming 0x8381C200#32 3#20) = true ∧
    (streaming 0x8381C200#32 3#20).xfer.csrc.toNat + (streaming 0x8381C200#32 3#20).xfer.ccnt.toNat ≤ 2 ^ 32 :=
  ⟨rfl, rfl, rfl, unitReady_streaming _ _ (by decide) (by decide) (by decide) (by decide) (by decide), by decide, by decide, by decide,
    by decide, by decide⟩

end Sys2Proof.Tests
end

section
/-! PROOFS. What the instructions that a step runs can do, said once: an inversion lemma for each orchestrator step, for the transitions of
step 4, for the host commands and for XFER, and which instruction a step takes. -/

namespace Sys2Proof.Machine

/-! ### Shared operations -/

/-- A table read leaves all but `MALFORMED` and the count of free values. -/
theorem tableFetch_frame {off : Nat} {s t : State} {b : Byte} (h : tableFetch off s = .ok (b, t)) :
    t = { s with malformed := t.malformed, drawn := t.drawn } := by
  obtain ⟨-, rfl⟩ | ⟨-, -, rfl⟩ := tableFetch_ok h <;> rfl

/-- A header that was read: its two bytes stand in the registers, and only a read past the end has left more behind. -/
theorem readHeader_ok {s t : State} (h : readHeader s = .ok t) :
    ∃ tag len, t = headerRead tag len { s with malformed := t.malformed, drawn := t.drawn } := by
  unfold readHeader at h
  split at h
  · cases h
  · next tag u hu =>
    split at h
    · cases h
    · next len v hv =>
      cases h
      refine ⟨tag, len, ?_⟩
      rw [tableFetch_frame hv, tableFetch_frame hu]
      rfl

/-- A parameter byte that was read. -/
theorem readParameter_ok {s t : State} (h : readParameter s = .ok t) :
    ∃ b, t = parameterRead b { s with malformed := t.malformed, drawn := t.drawn } := by
  unfold readParameter at h
  split at h
  · cases h
  · next b u hu =>
    cases h
    refine ⟨b, ?_⟩
    rw [tableFetch_frame hu]
    rfl

/-- What a call of a sink of the orchestrator's binding begins in step 4: the line is set, then a byte transfer waits, or on handle `none`
the sink has returned. -/
theorem beginSink_cases (c : SinkCall) (s : State) :
    (s.bh.isSome ∧ beginSink c s = { gpioSet .dc (sinkLevel c) s with bph := .w1 }) ∨
    (s.bh = none ∧ beginSink c s = afterSink (gpioSet .dc (sinkLevel c) s)) := by
  cases hb : s.bh <;> simp [beginSink, hb]

/-- One access of an action of two writes on a handle: none on `none`, else the first, else the second, which ends the action. -/
theorem oneWriteOf_writesOn_cases (h : Handle) (w v : RegW) (k : State → State) (s : State) :
    (h = none ∧ oneWriteOf (writesOn h [w, v]) k s = k s) ∨
    (h.isSome ∧ s.midAction = false ∧ oneWriteOf (writesOn h [w, v]) k s = { regWrite w s with midAction := true }) ∨
    (h.isSome ∧ s.midAction = true ∧ oneWriteOf (writesOn h [w, v]) k s = k { regWrite v s with midAction := false }) := by
  cases h with
  | none => exact .inl ⟨rfl, rfl⟩
  | some ch =>
    cases hm : s.midAction with
    | false => exact .inr (.inl ⟨rfl, rfl, oneWriteOf_first w v k hm⟩)
    | true => exact .inr (.inr ⟨rfl, rfl, oneWriteOf_second w v k hm⟩)

/-- What `set_clock_rate` on a held handle can do: nothing on `none`, else the write of a prescaler in range. -/
theorem setClockRateOn_next {h : Handle} {hz : Nat} {s t : State} (e : setClockRateOn h hz s = .next t) :
    (h = none ∧ t = s) ∨ ∃ p, h.isSome ∧ prescaler s.cfg.pclk hz = some p ∧ t = regWrite (.busPre p) s := by
  unfold setClockRateOn at e
  split at e
  · cases e; exact .inl ⟨rfl, rfl⟩
  · split at e
    · next p hp => cases e; exact .inr ⟨p, rfl, hp, rfl⟩
    · cases e

/-- What the third action of step 7 can do: nothing on `none`, else the write of a control word in range. -/
theorem setupControl_next {s t : State} (e : setupControl s = .next t) :
    (s.xh = none ∧ t = s) ∨ ∃ w, s.xh.isSome ∧ ctlWord s.cfg = some w ∧ t = regWrite (.xferCon w) s := by
  unfold setupControl at e
  split at e
  · next hx => cases e; exact .inl ⟨hx, rfl⟩
  · next ch hx =>
    split at e
    · next w hw => cases e; exact .inr ⟨w, by rw [hx]; rfl, hw, by rw [hx]; rfl⟩
    · cases e

/-- What `trigger` on a held handle can do: nothing on `none`, else the write of the trigger word on a channel that is not armed. -/
theorem triggerOn_next {h : Handle} {s t : State} (e : triggerOn h s = .next t) :
    (h = none ∧ t = s) ∨
    (h.isSome ∧ s.xfer.trigOn = false ∧ t = regWrite (.xferTrig (triggerWord s.xfer.con)) s) := by
  unfold triggerOn at e
  split at e
  · cases e; exact .inl ⟨rfl, rfl⟩
  · split at e
    · cases e
    · next hn => cases e; exact .inr ⟨rfl, by simpa using hn, rfl⟩

/-! ### The orchestrator's steps -/

/-- Step 1: the reset line an output, then the command/data line, with which the step is over (rule R154). -/
theorem execStep1PinConfig_next {s t : State} (e : execStep1PinConfig s = .next t) : s.ost = .pincfg ∧
    ((s.sub = 0#2 ∧ t = countAction (gpioOutput .rst s)) ∨
     (s.sub = 1#2 ∧ t = enterStep .busup (gpioOutput .dc s))) := by
  obtain ⟨ho, e⟩ := atStep_next e
  refine ⟨ho, ?_⟩
  split at e
  · next hs => cases e; exact .inl ⟨BitVec.eq_of_toNat_eq hs, rfl⟩
  · next hs => cases e; exact .inr ⟨BitVec.eq_of_toNat_eq hs, rfl⟩
  · cases e

/-- Step 2: one access of `configure`, then the clock rate, with which the step is over (rule R155). -/
theorem execStep2BusBringup_next {s t : State} (e : execStep2BusBringup s = .next t) : s.ost = .busup ∧
    ((s.sub = 0#2 ∧ t = oneWriteOf (writesOn s.bh (configureWrites (modeBits s.cfg))) countAction s) ∨
     (s.sub = 1#2 ∧ ∃ u, setClockRateOn s.bh s.cfg.targetHz s = .next u ∧ t = enterStep .resetPulse u)) := by
  obtain ⟨ho, e⟩ := atStep_next e
  refine ⟨ho, ?_⟩
  split at e
  · next hs => cases e; exact .inl ⟨BitVec.eq_of_toNat_eq hs, rfl⟩
  · next hs =>
    obtain ⟨u, hu, e⟩ := andThen_next e
    cases e
    exact .inr ⟨BitVec.eq_of_toNat_eq hs, u, hu, rfl⟩
  · cases e

/-- Step 3: the reset line low, a delay, the line high, a delay, with which the step is over (rule R157). -/
theorem execStep3ResetPulse_next {s t : State} (e : execStep3ResetPulse s = .next t) : s.ost = .resetPulse ∧
    ((s.sub = 0#2 ∧ t = countAction (gpioSet .rst false s)) ∨
     (s.sub = 1#2 ∧ t = delayThen s.cfg.tLowMs countAction s) ∨
     (s.sub = 2#2 ∧ t = countAction (gpioSet .rst true s)) ∨
     (s.sub = 3#2 ∧ t = delayThen s.cfg.tHighMs (fun u => startPlay (enterStep .play u)) s)) := by
  obtain ⟨ho, e⟩ := atStep_next e
  refine ⟨ho, ?_⟩
  split at e
  · next hs => cases e; exact .inl ⟨BitVec.eq_of_toNat_eq hs, rfl⟩
  · next hs => cases e; exact .inr (.inl ⟨BitVec.eq_of_toNat_eq hs, rfl⟩)
  · next hs => cases e; exact .inr (.inr (.inl ⟨BitVec.eq_of_toNat_eq hs, rfl⟩))
  · next h0 h1 h2 =>
    rw [imp_false] at h0 h1 h2
    have h3 : s.sub.toNat = 3 := by omega
    cases e; exact .inr (.inr (.inr ⟨BitVec.eq_of_toNat_eq h3, rfl⟩))

/-- Step 4: the thread polls a busy bus, writes the data register, returns from a sink, leaves play, reads a header, or reads a parameter
(40_sequencer.md rule R89). -/
theorem playTransition_next {s t : State} (e : playTransition s = .next t) :
    (s.bph ≠ .idle ∧ s.bus.ready = false ∧ t = s) ∨
    (s.bph = .w1 ∧ s.bus.ready = true ∧ t = { regWrite (.busDat s.byte) s with bph := .w2 }) ∨
    (s.bph = .w2 ∧ s.bus.ready = true ∧ t = afterSink { s with bph := .idle }) ∨
    (s.bph = .idle ∧ s.ph = .head ∧ playOver s = true ∧ t = enterStep .window s) ∨
    (s.bph = .idle ∧ s.ph = .head ∧ playOver s = false ∧ ∃ u, readHeader s = .ok u ∧ t = beginSink (.command u.byte) u) ∨
    (s.bph = .idle ∧ (s.ph = .cmd ∨ s.ph = .param ∧ s.rem = 0#8) ∧ t = afterSink s) ∨
    (s.bph = .idle ∧ s.ph = .param ∧ s.rem ≠ 0#8 ∧ ∃ u, readParameter s = .ok u ∧ t = beginSink (.parameter u.byte) u) := by
  unfold playTransition statusReady at e
  split at e
  · next hb =>
    cases hr : s.bus.ready with
    | false => rw [hr] at e; cases e; exact .inl ⟨by simp [hb], rfl, rfl⟩
    | true => rw [hr] at e; cases e; exact .inr (.inl ⟨hb, rfl, rfl⟩)
  · next hb =>
    cases hr : s.bus.ready with
    | false => rw [hr] at e; cases e; exact .inl ⟨by simp [hb], rfl, rfl⟩
    | true => rw [hr] at e; cases e; exact .inr (.inr (.inl ⟨hb, rfl, rfl⟩))
  · next hb =>
    split at e
    · next hp =>
      split at e
      · next ho => cases e; exact .inr (.inr (.inr (.inl ⟨hb, hp, ho, rfl⟩)))
      · next ho =>
        split at e
        · cases e
        · next u hu =>
          cases e; exact .inr (.inr (.inr (.inr (.inl ⟨hb, hp, by simpa using ho, u, hu, rfl⟩))))
    · next hp => cases e; exact .inr (.inr (.inr (.inr (.inr (.inl ⟨hb, .inl hp, rfl⟩)))))
    · next hp =>
      split at e
      · next hz => cases e; exact .inr (.inr (.inr (.inr (.inr (.inl ⟨hb, .inr ⟨hp, hz⟩, rfl⟩)))))
      · next hz =>
        split at e
        · cases e
        · next u hu => cases e; exact .inr (.inr (.inr (.inr (.inr (.inr ⟨hb, hp, hz, u, hu, rfl⟩)))))

/-- Step 5 (rule R163). -/
theorem execStep5Window_next {s t : State} (e : execStep5Window s = .next t) : s.ost = .window ∧ t = enterStep .dataMode s := by
  obtain ⟨ho, e⟩ := atStep_next e
  cases e; exact ⟨ho, rfl⟩

/-- Step 6: the command/data line high (rule R164). -/
theorem execStep6DataMode_next {s t : State} (e : execStep6DataMode s = .next t) :
    s.ost = .dataMode ∧ t = enterStep .xsetup (gpioSet .dc true s) := by
  obtain ⟨ho, e⟩ := atStep_next e
  cases e; exact ⟨ho, rfl⟩

/-- Step 7: one access of the source's, one of the destination's, then the control word, with which the step is over (rule R165). -/
theorem execStep7SessionSetup_next {s t : State} (e : execStep7SessionSetup s = .next t) : s.ost = .xsetup ∧
    ((s.sub = 0#2 ∧ t = oneWriteOf (writesOn s.xh (sourceWrites s.fbb (srccBits s.cfg))) countAction s) ∨
     (s.sub = 1#2 ∧ t = setupDestination s) ∨
     (s.sub = 2#2 ∧ ∃ u, setupControl s = .next u ∧ t = enterStep .trigger u)) := by
  obtain ⟨ho, e⟩ := atStep_next e
  refine ⟨ho, ?_⟩
  split at e
  · next hs => cases e; exact .inl ⟨BitVec.eq_of_toNat_eq hs, rfl⟩
  · next hs => cases e; exact .inr (.inl ⟨BitVec.eq_of_toNat_eq hs, rfl⟩)
  · next hs =>
    obtain ⟨u, hu, e⟩ := andThen_next e
    cases e
    exact .inr (.inr ⟨BitVec.eq_of_toNat_eq hs, u, hu, rfl⟩)
  · cases e

/-- Step 8: the trigger, never with a valid transfer handle and no bus (rules R168 and R174). -/
theorem execStep8Trigger_next {s t : State} (e : execStep8Trigger s = .next t) : s.ost = .trigger ∧
    ¬(s.xh.isSome ∧ s.bh = none) ∧ ∃ u, triggerOn s.xh s = .next u ∧ t = enterStep .handoff u := by
  obtain ⟨ho, e⟩ := atStep_next e
  split at e
  · cases e
  · next hn =>
    obtain ⟨u, hu, e⟩ := andThen_next e
    cases e
    exact ⟨ho, hn, u, hu, rfl⟩

/-! ### The host commands and XFER -/

/-- INIT takes the framebuffer base and the two handles, in IDLE only (rules R150 and R172). -/
theorem execInit_next {fb : Addr} {s t : State} (e : execInit fb s = .next t) : s.ost = .idle ∧
    t = enterStep .pincfg { s with fbb := fb, bh := selectBus s.cfg s.cfg.busCh, xh := selectXfer s.cfg.xferCh } := by
  unfold execInit at e
  split at e
  · next ho => cases e; exact ⟨ho, rfl⟩
  · cases e

/-- WRITE_BYTE sends its byte after hand-off, on a channel that is not armed and with no transfer in progress (rule R171). -/
theorem execWriteByte_next {harg : Word} {s t : State} (e : execWriteByte harg s = .next t) :
    s.ost = .handoff ∧ s.xfer.trigOn = false ∧ s.bph = .idle ∧
    t = transferOn s.bh (harg.setWidth 8) { s with byte := harg.setWidth 8 } := by
  unfold execWriteByte at e
  split at e
  · cases e
  · next ho =>
    split at e
    · cases e
    · next ha =>
      split at e
      · cases e
      · next hb => cases e; exact ⟨by simpa using ho, by simpa using ha, by simpa using hb, rfl⟩

/-- XFER's step changes nothing, or the armed channel moves a unit to a bus that requests it (rules R129 to R133). -/
theorem execXferUnit_next {s t : State} (e : execXferUnit s = .next t) :
    t = s ∨ (xferEnabled s = true ∧ unitRefusal s = none ∧ t = moveUnit s) := by
  unfold execXferUnit at e
  split at e
  · cases e; exact .inl rfl
  · split at e
    · cases e
    · split at e
      · cases e
      · split at e
        · cases e
        · unfold execRequestedUnit at e
          split at e
          · next hx =>
            split at e
            · cases e
            · next hu => cases e; exact .inr ⟨hx, hu, rfl⟩
          · cases e; exact .inl rfl

/-- An enabled XFER is armed, and its bus is idle (rule R129). -/
theorem xferEnabled_armed {s : State} (h : xferEnabled s = true) : s.xfer.trigOn = true ∧ s.bus.ready = true := by
  simp only [xferEnabled, busReq, Bool.and_eq_true] at h
  obtain ⟨⟨⟨ha, -⟩, -⟩, hr⟩ := h
  exact ⟨ha, hr⟩

/-! ### Which instruction a step takes -/

/-- A step with a move scheduled takes that move. -/
theorem step_scheduled {s : State} {m : Move} {more : List Move} (h : s.agenda = m :: more) :
    step s = takeMove m { s with agenda := more } := by rw [step, h]

/-- A step with nothing scheduled runs the agent that can get on. -/
theorem step_unscheduled {s : State} (h : s.agenda = []) : step s = exec (fetchUnscheduled s) s := by rw [step, h]

/-- With nothing scheduled the thread runs, or XFER, or BUS, or nobody (log entry 1). -/
theorem fetchUnscheduled_cases (s : State) : fetchUnscheduled s = fetchThread s ∨ fetchUnscheduled s = .xferUnit ∨
    fetchUnscheduled s = .busShift .complete ∨ fetchUnscheduled s = .hcmdNone := by
  unfold fetchUnscheduled
  split
  · exact .inl rfl
  split
  · exact .inr (.inl rfl)
  split
  · exact .inr (.inr (.inl rfl))
  split
  · exact .inr (.inl rfl)
  split
  · exact .inl rfl
  · exact .inr (.inr (.inr rfl))

/-- What is decoded from table bytes is an entry whose length byte counts its parameters (30_encoding.md rule R61). -/
theorem decodeEntry_ok {bytes rest : List Byte} {i : Instr} (h : decodeEntry bytes = .ok (i, rest)) :
    ∃ tag len ps, i = .entry tag len ps ∧ ps.length = len.toNat := by
  match bytes with
  | [] => cases h
  | [_] => cases h
  | tag :: len :: tail =>
    by_cases hl : len.toNat ≤ tail.length
    · simp only [decodeEntry, splitEntry, hl, if_true] at h
      cases h
      exact ⟨tag, len, _, rfl, by simpa using hl⟩
    · simp only [decodeEntry, splitEntry, hl, if_false] at h
      cases h

/-- In play the thread runs a whole entry from a head inside the table, or one transition of step 4. -/
theorem fetchPlay_cases (s : State) :
    (s.bph = .idle ∧ s.ph = .head ∧ playOver s = false ∧
      ∃ tag len ps, fetchPlay s = .entry tag len ps ∧ ps.length = len.toNat) ∨
    fetchPlay s = .step4CommandPlayback := by
  unfold fetchPlay
  split
  · next hc =>
    obtain ⟨hb, hp, ho⟩ := hc
    split
    · next i rest hd =>
      obtain ⟨tag, len, ps, rfl, hl⟩ := decodeEntry_ok hd
      exact .inl ⟨hb, hp, ho, tag, len, ps, rfl, hl⟩
    · exact .inr rfl
  · exact .inr rfl

/-- The thread runs the step `OST` names, but in play and after hand-off. -/
theorem fetchThread_stepOf {s : State} (hp : s.ost ≠ .play) (hh : s.ost ≠ .handoff) : fetchThread s = stepOf s.ost := by
  unfold fetchThread
  split
  · next ho => exact absurd ho hp
  · next ho => exact absurd ho hh
  · rfl

/-- The thread's next transition is the byte transfer of a WRITE_BYTE that has not returned, or the step `OST` names. -/
theorem fetchOrch_cases (s : State) :
    (s.ost = .handoff ∧ s.bph ≠ .idle ∧ fetchOrch s = .writeOnly s.bh s.byte) ∨ fetchOrch s = stepOf s.ost := by
  unfold fetchOrch
  split
  · next h => exact .inl ⟨h.1, h.2, rfl⟩
  · exact .inr rfl

end Sys2Proof.Machine
end

section
/-! PROOFS. The control invariant is kept by each named operation a step is made of, where the operation stands in a run. A clause that an
operation does not touch is the invariant's own; the proofs give the others. -/

namespace Sys2Proof.Machine

/-! ### What the invariant says in particular places -/

/-- No byte transfer is in progress outside play and before hand-off. -/
theorem bph_idle_of_controlInv {s : State} (h : ControlInv s) (hp : s.ost ≠ .play) (hh : s.ost ≠ .handoff) : s.bph = .idle := by
  by_contra hb
  obtain ⟨-, ⟨hplay, -⟩ | hhand⟩ := h.transferOwned hb
  · exact hp hplay
  · exact hh hhand

/-- Outside steps 2 and 7 the thread stands between two actions. -/
theorem midAction_false_of_controlInv {s : State} (h : ControlInv s) (h2 : s.ost ≠ .busup) (h7 : s.ost ≠ .xsetup) :
    s.midAction = false := by
  by_contra hm
  obtain ⟨ho, -⟩ | ⟨ho, -⟩ := h.betweenWrites (by simpa using hm)
  · exact h2 ho
  · exact h7 ho

/-- Step 2 has no register write to come once `configure` is over. -/
theorem midAction_false_after_configure {s : State} (h : ControlInv s) (ho : s.ost = .busup) (hs : s.sub = 1#2) :
    s.midAction = false := by
  by_contra hm
  have hb := h.betweenWrites (by simpa using hm)
  simp [ho, hs] at hb

/-- Step 7's third action is one write. -/
theorem midAction_false_after_destination {s : State} (h : ControlInv s) (ho : s.ost = .xsetup) (hs : s.sub = 2#2) :
    s.midAction = false := by
  by_contra hm
  have hb := h.betweenWrites (by simpa using hm)
  simp [ho, hs] at hb

/-- Outside step 3 no delay is answered. -/
theorem delayDone_false_of_controlInv {s : State} (h : ControlInv s) (ho : s.ost ≠ .resetPulse) : s.delayDone = false := by
  by_contra hd
  exact ho (h.answersDelay (by simpa using hd)).1

/-- Before each of the two delays of step 3 none is answered. -/
theorem delayDone_false_between_delays {s : State} (h : ControlInv s) (hs : s.sub = 0#2 ∨ s.sub = 2#2) : s.delayDone = false := by
  by_contra hd
  obtain ⟨-, ha⟩ := h.answersDelay (by simpa using hd)
  rcases hs with hs | hs <;> simp [hs] at ha

/-- The thread is between two actions, no delay is answered, no byte transfer is in progress, and the sequencer stands at a head: what an
orchestrator step leaves to the next. -/
def atRest (s : State) : Prop := s.midAction = false ∧ s.delayDone = false ∧ s.bph = .idle ∧ s.ph = .head

/-- Outside play and before hand-off only the place inside an action and the delay's answer keep the thread from rest. -/
theorem atRest_of_controlInv {s : State} (h : ControlInv s) (hp : s.ost ≠ .play) (hh : s.ost ≠ .handoff) (hm : s.midAction = false)
    (hd : s.delayDone = false) : atRest s := ⟨hm, hd, bph_idle_of_controlInv h hp hh, h.headOutsidePlay hp⟩

/-- In IDLE and in the steps with no delay, no two-write action and no transfer the thread is always at rest. -/
theorem atRest_of_plainStep {s : State} (h : ControlInv s)
    (ho : s.ost = .idle ∨ s.ost = .pincfg ∨ s.ost = .window ∨ s.ost = .dataMode ∨ s.ost = .trigger) : atRest s :=
  atRest_of_controlInv h (by intro hp; simp [hp] at ho) (by intro hh; simp [hh] at ho)
    (midAction_false_of_controlInv h (by intro h2; simp [h2] at ho) (by intro h7; simp [h7] at ho))
    (delayDone_false_of_controlInv h (by intro h3; simp [h3] at ho))

/-! ### Operations that touch nothing the invariant reads, or one part -/

/-- The schedule is free. -/
theorem controlInv_agenda {s : State} (h : ControlInv s) (l : List Move) : ControlInv { s with agenda := l } := { h with }

/-- Memory is free. -/
theorem controlInv_mem {s : State} (h : ControlInv s) (m : List Host.Cell) : ControlInv { s with mem := m } := { h with }

/-- `SEQ.BYTE` is free. -/
theorem controlInv_byte {s : State} (h : ControlInv s) (b : Byte) : ControlInv { s with byte := b } := { h with }

/-- `MALFORMED` and the free values are free: a table read keeps the invariant. -/
theorem controlInv_tableRead {s : State} (h : ControlInv s) (m : Bool) (n : Nat) :
    ControlInv { s with malformed := m, drawn := n } := { h with }

/-- RESET gives a state of the invariant, under every configuration. -/
theorem controlInv_reset (c : Config) (m : List Host.Cell) (n : Nat) (l : List Move) :
    ControlInv { State.resetWith c with mem := m, drawn := n, agenda := l } := by
  constructor <;> simp [State.resetWith, ostCode]

/-- ENV answers only where the thread stands in a delay. -/
theorem controlInv_answerDelay {s : State} (h : ControlInv s) : ControlInv (answerDelay s) := by
  unfold answerDelay
  split
  · next hd => exact { h with answersDelay := fun _ => inDelay_iff.1 hd }
  · exact h

/-- The end of a delay uses ENV's answer up. -/
theorem controlInv_delay {s : State} (h : ControlInv s) (n : Nat) : ControlInv (delay n s) :=
  { h with answersDelay := fun hd => by cases hd }

/-- A line that becomes an output stays one. -/
theorem controlInv_gpioOutput {s : State} (h : ControlInv s) (line : Line) : ControlInv (gpioOutput line s) := by
  cases line with
  | rst => exact { h with linesOut := fun hc => ⟨rfl, (h.linesOut hc).2⟩, resetLineFirst := fun _ _ => rfl }
  | dc => exact { h with linesOut := fun hc => ⟨(h.linesOut hc).1, rfl⟩ }

/-- The reset line may be raised anywhere. -/
theorem controlInv_raiseReset {s : State} (h : ControlInv s) : ControlInv (gpioSet .rst true s) :=
  { h with resetRaised := fun _ _ => rfl, resetReleased := fun _ => rfl }

/-- The reset line may be lowered in the first action of step 3. -/
theorem controlInv_lowerReset {s : State} (h : ControlInv s) (ho : s.ost = .resetPulse) (hs : s.sub = 0#2) :
    ControlInv (gpioSet .rst false s) :=
  { h with
    resetRaised := fun _ (h3 : s.sub = 3#2) => by simp [hs] at h3
    resetReleased := fun (h4 : 4 ≤ (ostCode s.ost).toNat) => by simp [ho, ostCode] at h4 }

/-- The command/data line is free until step 6 is over, and may be raised anywhere. -/
theorem controlInv_gpioSet_dc {s : State} (h : ControlInv s) (level : Bool)
    (hl : 7 ≤ (ostCode s.ost).toNat → level = true) : ControlInv (gpioSet .dc level s) := { h with dataMode := hl }

/-! ### Register writes -/

/-- A write that neither starts a shift nor arms the channel: the writes of steps 2 and 7. -/
def setsUp (w : RegW) : Prop := (∀ b, w ≠ .busDat b) ∧ ∀ v, w ≠ .xferTrig v

/-- Bring-up's register writes keep the invariant: a bus becomes ready by them and never busy. -/
theorem controlInv_regWrite {s : State} (h : ControlInv s) {w : RegW} (hw : setsUp w) : ControlInv (regWrite w s) := by
  cases w with
  | busDat b => exact absurd rfl (hw.1 b)
  | xferTrig v => exact absurd rfl (hw.2 v)
  | busCon v =>
    simp only [regWrite, storeReg, storeBusCon]
    split
    · exact { h with busyInSecondWait := fun hb => by cases hb }
    · exact { h with }
  | busPre _ | xferSrc _ | xferSrcc _ | xferDst _ | xferDstc _ | xferCon _ => exact { h with }

theorem setsUp_busCon (v : Byte) : setsUp (.busCon v) := by simp [setsUp]
theorem setsUp_busPre (v : Byte) : setsUp (.busPre v) := by simp [setsUp]
theorem setsUp_xferSrc (v : Word) : setsUp (.xferSrc v) := by simp [setsUp]
theorem setsUp_xferSrcc (v : Word) : setsUp (.xferSrcc v) := by simp [setsUp]
theorem setsUp_xferDst (v : Word) : setsUp (.xferDst v) := by simp [setsUp]
theorem setsUp_xferDstc (v : Word) : setsUp (.xferDstc v) := by simp [setsUp]
theorem setsUp_xferCon (v : Word) : setsUp (.xferCon v) := by simp [setsUp]

/-- The channel may be armed after hand-off. -/
theorem controlInv_regWrite_xferTrig {s : State} (h : ControlInv s) (ho : s.ost = .handoff) (v : Word) :
    ControlInv (regWrite (.xferTrig v) s) := { h with notArmed := fun hn => absurd ho hn }

/-! ### The orchestrator's advance -/

/-- An action that is over is counted, where the step has a further one and the lines stand as the next action expects. -/
theorem controlInv_countAction {s : State} (h : ControlInv s) (hm : s.midAction = false) (hd : s.delayDone = false)
    (hs : (s.sub + 1#2).toNat ≤ lastSub s.ost) (h1 : s.ost = .pincfg → s.gpio.rstOe = true)
    (h3 : s.ost = .resetPulse → s.sub + 1#2 = 3#2 → s.gpio.rst = true) : ControlInv (countAction s) :=
  { h with
    subInStep := hs
    betweenWrites := fun (hm' : s.midAction = true) => by simp [hm] at hm'
    answersDelay := fun (hd' : s.delayDone = true) => by simp [hd] at hd'
    resetLineFirst := fun ho _ => h1 ho
    resetRaised := h3 }

/-- What the step `OST` names is to do to the lines is done: both outputs by step 1, the panel out of reset by step 3, data mode by
step 6. -/
def linesDone (s : State) : Prop :=
  (s.ost = .pincfg → s.gpio.rstOe = true ∧ s.gpio.dcOe = true) ∧ (s.ost = .resetPulse → s.gpio.rst = true) ∧
    (s.ost = .dataMode → s.gpio.dc = true)

/-- A step that is over hands on to the next: the thread is at rest, and the lines are as the step was to leave them. -/
theorem controlInv_enterStep {s : State} (h : ControlInv s) {o : Ost} (hi : s.ost ≠ .idle)
    (hnext : (ostCode o).toNat = (ostCode s.ost).toNat + 1) (hrest : atRest s) (hlines : linesDone s) : ControlInv (enterStep o s) := by
  obtain ⟨hm, hd, hb, hp⟩ := hrest
  obtain ⟨h1, h3, h6⟩ := hlines
  have hoff : s.ost ≠ .handoff := fun hh => by rw [hh] at hnext; cases o <;> simp [ostCode] at hnext
  exact {
    subInStep := Nat.zero_le _
    betweenWrites := fun (hm' : s.midAction = true) => by simp [hm] at hm'
    answersDelay := fun (hd' : s.delayDone = true) => by simp [hd] at hd'
    notArmed := fun _ => h.notArmed hoff
    transferOwned := fun (hb' : s.bph ≠ .idle) => absurd hb hb'
    busyInSecondWait := fun hr _ => h.busyInSecondWait hr hoff
    handlesIdle := fun (ho : o = .idle) => by simp [ho, ostCode] at hnext
    handlesTaken := fun _ => h.handlesTaken hi
    linesOut := fun (hc : 2 ≤ (ostCode o).toNat) => by
      by_cases ho : s.ost = .pincfg
      · exact h1 ho
      · exact h.linesOut (by cases hs : s.ost <;> simp_all [ostCode])
    resetLineFirst := fun _ hs => absurd rfl hs
    resetRaised := fun _ (hs : 0#2 = 3#2) => by cases hs
    resetReleased := fun (hc : 4 ≤ (ostCode o).toNat) => by
      by_cases ho : s.ost = .resetPulse
      · exact h3 ho
      · exact h.resetReleased (by cases hs : s.ost <;> simp_all [ostCode])
    dataMode := fun (hc : 7 ≤ (ostCode o).toNat) => by
      by_cases ho : s.ost = .dataMode
      · exact h6 ho
      · exact h.dataMode (by cases hs : s.ost <;> simp_all [ostCode])
    headOutsidePlay := fun _ => hp
    headHasNone := h.headHasNone
    pointerInRange := h.pointerInRange }

/-- The entry to play puts the pointer at the front of the table. -/
theorem controlInv_startPlay {s : State} (h : ControlInv s) (hp : s.ph = .head) (hb : s.bph = .idle) : ControlInv (startPlay s) :=
  { h with
    transferOwned := fun (hb' : s.bph ≠ .idle) => absurd hb hb'
    headOutsidePlay := fun _ => rfl
    headHasNone := fun _ => h.headHasNone hp
    pointerInRange := by simp [h.headHasNone hp] }

end Sys2Proof.Machine
end

section
/-! PROOFS. The control invariant over the byte transfer, the sequencer and the two-write actions, then over each instruction that a step
runs; with them every step keeps it. -/

namespace Sys2Proof.Machine

/-! ### Byte transfers -/

/-- Where a byte transfer may be in progress: on a valid handle, past a header in play or after hand-off. -/
def mayTransfer (s : State) : Prop := s.bh.isSome ∧ ((s.ost = .play ∧ s.ph ≠ .head) ∨ s.ost = .handoff)

/-- A shift that completes leaves the bus ready. -/
theorem controlInv_completeShift {s : State} (h : ControlInv s) : ControlInv (completeShift s) :=
  { h with busyInSecondWait := fun hr => by cases hr }

/-- A transfer begins with its first wait. -/
theorem controlInv_firstWait {s : State} (h : ControlInv s) (hp : mayTransfer s) (hb : s.bph = .idle) :
    ControlInv { s with bph := .w1 } :=
  { h with
    transferOwned := fun _ => hp
    busyInSecondWait := fun hr ho => by have hw := h.busyInSecondWait hr ho; simp [hb] at hw }

/-- The data write makes the bus busy, and the second wait follows. -/
theorem controlInv_dataWrite {s : State} (h : ControlInv s) (hp : mayTransfer s) (b : Byte) :
    ControlInv { regWrite (.busDat b) s with bph := .w2 } :=
  { h with transferOwned := fun _ => hp, busyInSecondWait := fun _ _ => rfl }

/-- A transfer returns on a ready bus. -/
theorem controlInv_transferReturn {s : State} (h : ControlInv s) (hr : s.bus.ready = true) : ControlInv { s with bph := .idle } :=
  { h with
    transferOwned := fun hb => absurd rfl hb
    busyInSecondWait := fun hr' => by rw [show s.bus.ready = false from hr'] at hr; cases hr }

/-- The second wait, ended or not. -/
theorem controlInv_runSecondWait {s : State} (h : ControlInv s) : ControlInv (runSecondWait s) := by
  unfold runSecondWait
  split
  · next t ht =>
    obtain ⟨rfl, hr⟩ | ⟨rfl, -⟩ := waitReady_some ht
    · exact controlInv_transferReturn h hr
    · exact controlInv_transferReturn (controlInv_completeShift h) rfl
  · exact h

/-- The first wait, ended or not, and what follows it. -/
theorem controlInv_runFirstWait {s : State} (h : ControlInv s) (hp : mayTransfer s) (b : Byte) : ControlInv (runFirstWait b s) := by
  unfold runFirstWait
  split
  · next t ht =>
    apply controlInv_runSecondWait
    obtain ⟨rfl, -⟩ | ⟨rfl, -⟩ := waitReady_some ht
    · exact controlInv_dataWrite h hp b
    · exact controlInv_dataWrite (controlInv_completeShift h) hp b
  · exact h

/-- A byte transfer on the orchestrator's handle, begun or gone on with, in play or after hand-off. -/
theorem controlInv_transferOn {s : State} (h : ControlInv s) (hp : (s.ost = .play ∧ s.ph ≠ .head) ∨ s.ost = .handoff) (b : Byte) :
    ControlInv (transferOn s.bh b s) := by
  unfold transferOn
  split
  · exact h
  · next ch hbh =>
    have hm : mayTransfer s := ⟨by simp [hbh], hp⟩
    unfold runTransfer
    split
    · next hb => exact controlInv_runFirstWait (controlInv_firstWait h hm hb) hm b
    · exact controlInv_runFirstWait h hm b
    · exact controlInv_runSecondWait h

/-! ### The sequencer -/

/-- In play the command/data line is free. -/
theorem controlInv_sinkLevel {s : State} (h : ControlInv s) (ho : s.ost = .play) (level : Bool) :
    ControlInv (gpioSet .dc level s) :=
  controlInv_gpioSet_dc h level fun hc => by simp [ho, ostCode] at hc

/-- A sink of the orchestrator's binding, past a header. -/
theorem controlInv_orchestratorSink {s : State} (h : ControlInv s) (ho : s.ost = .play) (hp : s.ph ≠ .head) (c : SinkCall) :
    ControlInv (orchestratorSink c s) :=
  controlInv_transferOn (controlInv_sinkLevel h ho (sinkLevel c)) (.inl ⟨by simpa using ho, by simpa using hp⟩) (sinkByte c)

/-- The phase after a sink is HEAD only where no parameter is left. -/
theorem controlInv_afterSink {s : State} (h : ControlInv s) (ho : s.ost = .play) : ControlInv (afterSink s) := by
  unfold afterSink
  split
  · next hb =>
    exact { h with
      transferOwned := fun hb' => absurd hb hb'
      headOutsidePlay := fun hn => absurd ho hn
      headHasNone := fun (hh : (if s.rem = 0#8 then SeqPhase.head else .param) = .head) => by
        by_contra hr
        rw [if_neg hr] at hh
        cases hh }
  · exact h

/-- A header read inside the table leaves the pointer and the parameters left within their bound. -/
theorem controlInv_headerRead {s : State} (h : ControlInv s) (ho : s.ost = .play) (hb : s.bph = .idle) (hl : playOver s = false)
    (tag len : Byte) : ControlInv (headerRead tag len s) :=
  { h with
    transferOwned := fun hb' => absurd hb hb'
    headOutsidePlay := fun hn => absurd ho hn
    headHasNone := fun hh => by cases hh
    pointerInRange := by
      have hin : s.tp < s.cfg.tableLen := by simpa [playOver] using hl
      have hlen := len.isLt
      simp only [headerRead_tp, headerRead_rem, headerRead_cfg]
      omega }

/-- A parameter that is read is one less that is left. -/
theorem controlInv_parameterRead {s : State} (h : ControlInv s) (hr : s.rem ≠ 0#8) (b : Byte) : ControlInv (parameterRead b s) :=
  { h with
    headHasNone := fun hh => absurd (h.headHasNone hh) hr
    pointerInRange := by
      have hp := h.pointerInRange
      simp only [parameterRead_tp, parameterRead_rem, parameterRead_cfg]
      have hrem : (s.rem - 1#8).toNat + 1 = s.rem.toNat := by bv_omega
      omega }

/-- While parameters are left the sequencer is past a header. -/
theorem ph_ne_head_of_rem {s : State} (h : ControlInv s) (hr : s.rem ≠ 0#8) : s.ph ≠ .head := fun hh => hr (h.headHasNone hh)

/-- The beginning of a sink in step 4. -/
theorem controlInv_beginSink {s : State} (h : ControlInv s) (ho : s.ost = .play) (hb : s.bph = .idle) (hp : s.ph ≠ .head)
    (c : SinkCall) : ControlInv (beginSink c s) := by
  have hl := controlInv_sinkLevel h ho (sinkLevel c)
  obtain ⟨hbh, e⟩ | ⟨-, e⟩ := beginSink_cases c s
  · rw [e]
    exact controlInv_firstWait hl ⟨by simpa using hbh, .inl ⟨by simpa using ho, by simpa using hp⟩⟩ (by simpa using hb)
  · rw [e]
    exact controlInv_afterSink hl (by simpa using ho)

/-- The parameters of an entry, as many as are left. -/
theorem controlInv_sendParameters (ps : List Byte) {s : State} (h : ControlInv s) (ho : s.ost = .play)
    (hl : ps.length = s.rem.toNat) : ControlInv (sendParameters ps s) := by
  induction ps generalizing s with
  | nil => exact h
  | cons p rest ih =>
    unfold sendParameters
    split
    · next hb =>
      rw [List.length_cons] at hl
      have hr : s.rem ≠ 0#8 := by bv_omega
      have hread := controlInv_parameterRead h hr p
      have hsink := controlInv_orchestratorSink hread (by simpa using ho) (by simpa using ph_ne_head_of_rem h hr) (.parameter p)
      refine ih (controlInv_afterSink hsink (by simpa using ho)) (by simpa [callSink] using ho) ?_
      simp only [afterSink_rem, callSink_rem, parameterRead_rem]
      bv_omega
    · exact h

/-- A whole entry from a head inside the table (rule R81). -/
theorem controlInv_execEntry {s t : State} (h : ControlInv s) (ho : s.ost = .play) (hl : playOver s = false) {tag len : Byte}
    {ps : List Byte} (hlen : ps.length = len.toNat) (e : execEntry tag len ps s = .next t) : ControlInv t := by
  unfold execEntry at e
  split at e
  · next hb =>
    cases e
    have hread := controlInv_headerRead h ho hb hl tag len
    have hsink := controlInv_orchestratorSink hread (by simpa using ho) (by simp) (.command tag)
    exact controlInv_sendParameters ps (controlInv_afterSink hsink (by simpa using ho)) (by simpa using ho)
      (by simpa [callSink] using hlen)
  · cases e

/-- The end of play, at a head with nothing in progress. -/
theorem controlInv_endPlay {s : State} (h : ControlInv s) (ho : s.ost = .play) (hb : s.bph = .idle) (hp : s.ph = .head) :
    ControlInv (enterStep .window s) :=
  have hm := midAction_false_of_controlInv h (by simp [ho]) (by simp [ho])
  have hd := delayDone_false_of_controlInv h (by simp [ho])
  controlInv_enterStep h (by simp [ho]) (by simp [ho, ostCode]) ⟨hm, hd, hb, hp⟩ (by simp [linesDone, ho])

/-- Step 4, transition by transition (rule R89). -/
theorem controlInv_execStep4CommandPlayback {s t : State} (h : ControlInv s) (e : execStep4CommandPlayback s = .next t) :
    ControlInv t := by
  obtain ⟨ho, e⟩ := atStep_next e
  obtain ⟨-, -, rfl⟩ | ⟨hb, -, rfl⟩ | ⟨-, hr, rfl⟩ | ⟨hb, hp, -, rfl⟩ | ⟨hb, -, hl, u, hu, rfl⟩ | ⟨-, -, rfl⟩ |
    ⟨hb, -, hr, u, hu, rfl⟩ := playTransition_next e
  · exact h
  · exact controlInv_dataWrite h (h.transferOwned (by simp [hb])) s.byte
  · exact controlInv_afterSink (controlInv_transferReturn h hr) ho
  · exact controlInv_endPlay h ho hb hp
  · obtain ⟨tag, len, hu⟩ := readHeader_ok hu
    rw [hu]
    exact controlInv_beginSink (controlInv_headerRead (controlInv_tableRead h u.malformed u.drawn) ho hb hl tag len) ho hb (by simp) _
  · exact controlInv_afterSink h ho
  · obtain ⟨b, hu⟩ := readParameter_ok hu
    rw [hu]
    have hp : s.ph ≠ .head := ph_ne_head_of_rem h hr
    exact controlInv_beginSink (controlInv_parameterRead (controlInv_tableRead h u.malformed u.drawn) hr b) ho hb hp _

/-! ### The actions of steps 2 and 7 -/

/-- One access of a two-write action, in the first action of step 2 or the first two of step 7, on that step's handle. -/
theorem controlInv_oneWriteOf {s : State} (h : ControlInv s) {hd : Handle} {w v : RegW} (hw : setsUp w) (hv : setsUp v)
    (hpl : (s.ost = .busup ∧ s.sub = 0#2 ∧ hd = s.bh) ∨ (s.ost = .xsetup ∧ (s.sub = 0#2 ∨ s.sub = 1#2) ∧ hd = s.xh)) :
    ControlInv (oneWriteOf (writesOn hd [w, v]) countAction s) := by
  have hpin : s.ost ≠ .pincfg := by rcases hpl with ⟨ho, -⟩ | ⟨ho, -⟩ <;> simp [ho]
  have hres : s.ost ≠ .resetPulse := by rcases hpl with ⟨ho, -⟩ | ⟨ho, -⟩ <;> simp [ho]
  have hdel : s.delayDone = false := delayDone_false_of_controlInv h hres
  have hsub : (s.sub + 1#2).toNat ≤ lastSub s.ost := by
    rcases hpl with ⟨ho, hs, -⟩ | ⟨ho, hs | hs, -⟩ <;> simp [ho, hs, lastSub]
  obtain ⟨hn, e⟩ | ⟨hsome, -, e⟩ | ⟨-, -, e⟩ := oneWriteOf_writesOn_cases hd w v countAction s <;> rw [e]
  · have hm : s.midAction = false := by
      by_contra hm
      have hbw := h.betweenWrites (by simpa using hm)
      subst hn
      rcases hpl with ⟨ho, -, hh⟩ | ⟨ho, -, hh⟩ <;> simp [ho, ← hh] at hbw
    exact controlInv_countAction h hm hdel hsub (absurd · hpin) (absurd · hres)
  · exact { controlInv_regWrite h hw with
      betweenWrites := fun _ => by
        rcases hpl with ⟨ho, hs, rfl⟩ | ⟨ho, hs, rfl⟩
        · exact .inl ⟨by simpa using ho, by simpa using hs, by simpa using hsome⟩
        · exact .inr ⟨by simpa using ho, by simpa using hs, by simpa using hsome⟩ }
  · have hover : ControlInv { regWrite v s with midAction := false } :=
      { controlInv_regWrite h hv with betweenWrites := fun hm => by cases hm }
    exact controlInv_countAction hover rfl (by simpa using hdel) (by simpa using hsub)
      (fun ho => absurd (by simpa using ho) hpin) (fun ho => absurd (by simpa using ho) hres)

/-- The free word of step 7 is drawn or not; nothing else changes. -/
theorem drawDestination_frame (s : State) : drawDestination s = { s with drawn := (drawDestination s).drawn } := by
  unfold drawDestination
  split <;> rfl

/-- Step 7's second action. -/
theorem controlInv_setupDestination {s : State} (h : ControlInv s) (ho : s.ost = .xsetup) (hs : s.sub = 1#2) :
    ControlInv (setupDestination s) := by
  have hdraw : ControlInv (drawDestination s) := by
    rw [drawDestination_frame]
    exact controlInv_tableRead h s.malformed _
  refine controlInv_oneWriteOf hdraw (setsUp_xferDst _) (setsUp_xferDstc _) (.inr ?_)
  rw [drawDestination_frame]
  exact ⟨ho, .inr hs, rfl⟩

/-! ### The orchestrator's other steps -/

/-- Step 1 (rule R154). -/
theorem controlInv_execStep1PinConfig {s t : State} (h : ControlInv s) (e : execStep1PinConfig s = .next t) : ControlInv t := by
  obtain ⟨ho, e⟩ := execStep1PinConfig_next e
  have hrest : atRest s := atRest_of_plainStep h (by simp [ho])
  obtain ⟨hs, rfl⟩ | ⟨hs, rfl⟩ := e
  · obtain ⟨hm, hd, -⟩ := hrest
    exact controlInv_countAction (controlInv_gpioOutput h .rst) hm hd (by simp [ho, hs, lastSub]) (fun _ => rfl) (by simp [ho])
  · have hrst : s.gpio.rstOe = true := h.resetLineFirst ho (by simp [hs])
    exact controlInv_enterStep (controlInv_gpioOutput h .dc) (by simp [ho]) (by simp [ho, ostCode]) hrest (by simp [linesDone, ho, hrst])

/-- Step 2 (rule R155). -/
theorem controlInv_execStep2BusBringup {s t : State} (h : ControlInv s) (e : execStep2BusBringup s = .next t) : ControlInv t := by
  obtain ⟨ho, ⟨hs, rfl⟩ | ⟨hs, u, hu, rfl⟩⟩ := execStep2BusBringup_next e
  · exact controlInv_oneWriteOf h (setsUp_busCon _) (setsUp_busCon _) (.inl ⟨ho, hs, rfl⟩)
  · have hrest : atRest s := atRest_of_controlInv h (by simp [ho]) (by simp [ho]) (midAction_false_after_configure h ho hs)
      (delayDone_false_of_controlInv h (by simp [ho]))
    obtain ⟨-, rfl⟩ | ⟨p, -, -, rfl⟩ := setClockRateOn_next hu
    · exact controlInv_enterStep h (by simp [ho]) (by simp [ho, ostCode]) hrest (by simp [linesDone, ho])
    · exact controlInv_enterStep (controlInv_regWrite h (setsUp_busPre p)) (by simp [ho]) (by simp [ho, ostCode]) hrest
        (by simp [linesDone, ho])

/-- The first delay of step 3, over or not. -/
theorem controlInv_lowDelay {s : State} (h : ControlInv s) (ho : s.ost = .resetPulse) (hs : s.sub = 1#2) (n : Nat) :
    ControlInv (delayThen n countAction s) := by
  have hm : s.midAction = false := midAction_false_of_controlInv h (by simp [ho]) (by simp [ho])
  obtain ⟨-, e⟩ | ⟨-, e⟩ := delayThen_cases n countAction s <;> rw [e]
  · exact controlInv_countAction (controlInv_delay h n) hm rfl (by simp [ho, hs, lastSub]) (by simp [ho]) (by simp [hs])
  · exact h

/-- The second delay of step 3, over or not; over, it is the entry to play. -/
theorem controlInv_highDelay {s : State} (h : ControlInv s) (ho : s.ost = .resetPulse) (hs : s.sub = 3#2) (n : Nat) :
    ControlInv (delayThen n (fun u => startPlay (enterStep .play u)) s) := by
  have hm : s.midAction = false := midAction_false_of_controlInv h (by simp [ho]) (by simp [ho])
  have hover := controlInv_delay h n
  have hrest : atRest (delay n s) := atRest_of_controlInv hover (by simp [ho]) (by simp [ho]) hm rfl
  have ⟨_, _, hb, hp⟩ := hrest
  have hrst : s.gpio.rst = true := h.resetRaised ho hs
  obtain ⟨-, e⟩ | ⟨-, e⟩ := delayThen_cases n (fun u => startPlay (enterStep .play u)) s <;> rw [e]
  · exact controlInv_startPlay
      (controlInv_enterStep hover (by simp [ho]) (by simp [ho, ostCode]) hrest (by simp [linesDone, ho, hrst])) hp hb
  · exact h

/-- Step 3 (rule R157). -/
theorem controlInv_execStep3ResetPulse {s t : State} (h : ControlInv s) (e : execStep3ResetPulse s = .next t) : ControlInv t := by
  obtain ⟨ho, e⟩ := execStep3ResetPulse_next e
  have hm : s.midAction = false := midAction_false_of_controlInv h (by simp [ho]) (by simp [ho])
  obtain ⟨hs, rfl⟩ | ⟨hs, rfl⟩ | ⟨hs, rfl⟩ | ⟨hs, rfl⟩ := e
  · have hd : s.delayDone = false := delayDone_false_between_delays h (.inl hs)
    exact controlInv_countAction (controlInv_lowerReset h ho hs) hm hd (by simp [ho, hs, lastSub]) (by simp [ho]) (by simp [hs])
  · exact controlInv_lowDelay h ho hs _
  · have hd : s.delayDone = false := delayDone_false_between_delays h (.inr hs)
    exact controlInv_countAction (controlInv_raiseReset h) hm hd (by simp [ho, hs, lastSub]) (by simp [ho]) (fun _ _ => rfl)
  · exact controlInv_highDelay h ho hs _

/-- Step 5 (rule R163). -/
theorem controlInv_execStep5Window {s t : State} (h : ControlInv s) (e : execStep5Window s = .next t) : ControlInv t := by
  obtain ⟨ho, rfl⟩ := execStep5Window_next e
  have hrest : atRest s := atRest_of_plainStep h (by simp [ho])
  exact controlInv_enterStep h (by simp [ho]) (by simp [ho, ostCode]) hrest (by simp [linesDone, ho])

/-- Step 6 (rule R164). -/
theorem controlInv_execStep6DataMode {s t : State} (h : ControlInv s) (e : execStep6DataMode s = .next t) : ControlInv t := by
  obtain ⟨ho, rfl⟩ := execStep6DataMode_next e
  have hrest : atRest s := atRest_of_plainStep h (by simp [ho])
  exact controlInv_enterStep (controlInv_gpioSet_dc h true fun _ => rfl) (by simp [ho]) (by simp [ho, ostCode]) hrest
    (by simp [linesDone, ho])

/-- Step 7 (rule R165). -/
theorem controlInv_execStep7SessionSetup {s t : State} (h : ControlInv s) (e : execStep7SessionSetup s = .next t) : ControlInv t := by
  obtain ⟨ho, ⟨hs, rfl⟩ | ⟨hs, rfl⟩ | ⟨hs, u, hu, rfl⟩⟩ := execStep7SessionSetup_next e
  · exact controlInv_oneWriteOf h (setsUp_xferSrc _) (setsUp_xferSrcc _) (.inr ⟨ho, .inl hs, rfl⟩)
  · exact controlInv_setupDestination h ho hs
  · have hrest : atRest s := atRest_of_controlInv h (by simp [ho]) (by simp [ho]) (midAction_false_after_destination h ho hs)
      (delayDone_false_of_controlInv h (by simp [ho]))
    obtain ⟨-, rfl⟩ | ⟨w, -, -, rfl⟩ := setupControl_next hu
    · exact controlInv_enterStep h (by simp [ho]) (by simp [ho, ostCode]) hrest (by simp [linesDone, ho])
    · exact controlInv_enterStep (controlInv_regWrite h (setsUp_xferCon w)) (by simp [ho]) (by simp [ho, ostCode]) hrest
        (by simp [linesDone, ho])

/-- Step 8 (rule R168): the channel is armed by the step that enters hand-off. -/
theorem controlInv_execStep8Trigger {s t : State} (h : ControlInv s) (e : execStep8Trigger s = .next t) : ControlInv t := by
  obtain ⟨ho, -, u, hu, rfl⟩ := execStep8Trigger_next e
  have hrest : atRest s := atRest_of_plainStep h (by simp [ho])
  have hoff : ControlInv (enterStep .handoff s) :=
    controlInv_enterStep h (by simp [ho]) (by simp [ho, ostCode]) hrest (by simp [linesDone, ho])
  obtain ⟨-, rfl⟩ | ⟨-, -, rfl⟩ := triggerOn_next hu
  · exact hoff
  · exact controlInv_regWrite_xferTrig hoff rfl _

/-- The step `OST` names. -/
theorem controlInv_stepOf {s t : State} (h : ControlInv s) (e : exec (stepOf s.ost) s = .next t) : ControlInv t := by
  cases ho : s.ost <;> rw [ho] at e
  case idle => cases e; exact h
  case pincfg => exact controlInv_execStep1PinConfig h e
  case busup => exact controlInv_execStep2BusBringup h e
  case resetPulse => exact controlInv_execStep3ResetPulse h e
  case play => exact controlInv_execStep4CommandPlayback h e
  case window => exact controlInv_execStep5Window h e
  case dataMode => exact controlInv_execStep6DataMode h e
  case xsetup => exact controlInv_execStep7SessionSetup h e
  case trigger => exact controlInv_execStep8Trigger h e
  case handoff => obtain ⟨-, e⟩ := atStep_next e; cases e; exact h

/-! ### The host commands, XFER and BUS -/

/-- INIT (rule R150): it takes the handles and leaves IDLE. -/
theorem controlInv_execInit {fb : Addr} {s t : State} (h : ControlInv s) (e : execInit fb s = .next t) : ControlInv t := by
  obtain ⟨ho, rfl⟩ := execInit_next e
  obtain ⟨hm, hd, hb, hp⟩ := atRest_of_plainStep h (.inl ho)
  exact { h with
    subInStep := Nat.zero_le _
    betweenWrites := fun (hm' : s.midAction = true) => by simp [hm] at hm'
    answersDelay := fun (hd' : s.delayDone = true) => by simp [hd] at hd'
    notArmed := fun _ => h.notArmed (by simp [ho])
    transferOwned := fun (hb' : s.bph ≠ .idle) => absurd hb hb'
    busyInSecondWait := fun hr _ => h.busyInSecondWait hr (by simp [ho])
    handlesIdle := fun hi => by cases hi
    handlesTaken := fun _ => ⟨rfl, rfl⟩
    linesOut := fun hc => by simp [ostCode] at hc
    resetLineFirst := fun _ hs => absurd rfl hs
    resetRaised := fun hr => by cases hr
    resetReleased := fun hc => by simp [ostCode] at hc
    dataMode := fun hc => by simp [ostCode] at hc
    headOutsidePlay := fun _ => hp }

/-- WRITE_BYTE (rule R171). -/
theorem controlInv_execWriteByte {harg : Word} {s t : State} (h : ControlInv s) (e : execWriteByte harg s = .next t) : ControlInv t := by
  obtain ⟨ho, -, -, rfl⟩ := execWriteByte_next e
  exact controlInv_transferOn (controlInv_byte h (harg.setWidth 8)) (.inr ho) _

/-- A WRITE_BYTE that has not returned goes on with its transfer. -/
theorem controlInv_writeOnly {s t : State} (h : ControlInv s) (ho : s.ost = .handoff)
    (e : exec (.writeOnly s.bh s.byte) s = .next t) : ControlInv t := by
  obtain ⟨-, rfl⟩ | ⟨ch, -, -, e⟩ := onBus_next e
  · exact h
  · cases e
    exact controlInv_transferOn h (.inr ho) _

/-- XFER moves a unit only after hand-off, for before it the channel is not armed. -/
theorem controlInv_execXferUnit {s t : State} (h : ControlInv s) (e : execXferUnit s = .next t) : ControlInv t := by
  obtain rfl | ⟨hx, -, rfl⟩ := execXferUnit_next e
  · exact h
  · have ho : s.ost = .handoff := by
      by_contra hn
      exact absurd (xferEnabled_armed hx).1 (by simp [(h.notArmed hn).1])
    exact { h with notArmed := fun hn => absurd ho hn, busyInSecondWait := fun _ hn => absurd ho hn }

/-- BUS completes a shift, or does nothing. -/
theorem controlInv_busComplete {s t : State} (h : ControlInv s) (e : exec (.busShift .complete) s = .next t) : ControlInv t := by
  change Host.Outcome.next (if statusReady s then s else completeShift s) = .next t at e
  cases e
  split
  · exact h
  · exact controlInv_completeShift h

/-- A command on the host's port. -/
theorem controlInv_decodeHcmd {s t : State} (h : ControlInv s) {code : BitVec 2} {harg : Word}
    (e : exec (decodeHcmd code harg) s = .next t) : ControlInv t := by
  unfold decodeHcmd at e
  split at e
  · cases e; exact h
  · exact controlInv_execInit h e
  · exact controlInv_execWriteByte h e
  · cases e; exact h

/-! ### The step -/

/-- The thread's next instruction. -/
theorem controlInv_fetchThread {s t : State} (h : ControlInv s) (e : exec (fetchThread s) s = .next t) : ControlInv t := by
  by_cases hp : s.ost = .play
  · have hf : fetchThread s = fetchPlay s := by simp [fetchThread, hp]
    rw [hf] at e
    obtain ⟨-, -, hl, tag, len, ps, hf, hlen⟩ | hf := fetchPlay_cases s <;> rw [hf] at e
    · exact controlInv_execEntry h hp hl hlen e
    · exact controlInv_execStep4CommandPlayback h e
  · by_cases hh : s.ost = .handoff
    · by_cases hb : s.bph = .idle
      · have hf : fetchThread s = stepOf s.ost := by simp [fetchThread, hh, hb, stepOf, ostCode, decodeOst]
        exact controlInv_stepOf h (hf ▸ e)
      · have hf : fetchThread s = .writeOnly s.bh s.byte := by simp [fetchThread, hh, hb]
        exact controlInv_writeOnly h hh (hf ▸ e)
    · exact controlInv_stepOf h (fetchThread_stepOf hp hh ▸ e)

/-- The instruction of an unscheduled step. -/
theorem controlInv_fetchUnscheduled {s t : State} (h : ControlInv s) (e : exec (fetchUnscheduled s) s = .next t) : ControlInv t := by
  obtain hf | hf | hf | hf := fetchUnscheduled_cases s <;> rw [hf] at e
  · exact controlInv_fetchThread h e
  · exact controlInv_execXferUnit h e
  · exact controlInv_busComplete h e
  · cases e; exact h

/-- The thread's scheduled transition. -/
theorem controlInv_fetchOrch {s t : State} (h : ControlInv s) (e : exec (fetchOrch s) s = .next t) : ControlInv t := by
  obtain ⟨ho, -, hf⟩ | hf := fetchOrch_cases s <;> rw [hf] at e
  · exact controlInv_writeOnly h ho e
  · exact controlInv_stepOf h e

/-- A framebuffer write of HOST. -/
theorem controlInv_hostWriteByte {a : Addr} {b : Byte} {s t : State} (h : ControlInv s) (e : hostWriteByte a b s = .next t) :
    ControlInv t := by
  unfold hostWriteByte at e
  split at e
  · cases e; exact controlInv_mem h _
  · cases e

/-- Every agent's move keeps the control invariant. -/
theorem controlInv_takeMove {m : Move} {s t : State} (h : ControlInv s) (e : takeMove m s = .next t) : ControlInv t := by
  cases m with
  | orch => exact controlInv_fetchOrch h e
  | bus => exact controlInv_busComplete h e
  | xfer => exact controlInv_execXferUnit h e
  | env => cases e; exact controlInv_answerDelay h
  | host code harg => exact controlInv_decodeHcmd h e
  | hostWrite a b => exact controlInv_hostWriteByte h e
  | reset => cases e; exact controlInv_reset s.cfg s.mem s.drawn s.agenda

/-- Settles O52: by the agent that moves, and for the thread by the step that `OST` names; each operation of such a step keeps the
invariant where it stands. -/
theorem stepsKeepControlInvariant : Obligations.StepsKeepControlInvariant := by
  intro s t h e
  cases ha : s.agenda with
  | nil => exact controlInv_fetchUnscheduled h (step_unscheduled ha ▸ e)
  | cons m more => exact controlInv_takeMove (controlInv_agenda h more) (step_scheduled ha ▸ e)

end Sys2Proof.Machine
end

section
/-! PROOFS. Which agent a step runs (00_scope.md rule R4): the scheduled one, or with nothing scheduled the one that can get on. -/

namespace Sys2Proof.Machine

/-! ### Scheduled -/

/-- ENV's scheduled move runs no instruction: it answers a delay. -/
theorem takeMove_env (s : State) : takeMove .env s = .next (answerDelay s) := rfl

/-- In IDLE the thread's scheduled transition does nothing (70_reset_and_hazards.md rule R221). -/
theorem exec_fetchOrch_idle {s : State} (ho : s.ost = .idle) : exec (fetchOrch s) s = .next s := by
  have hf : fetchOrch s = .hcmdNone := by simp [fetchOrch, stepOf, ostCode, decodeOst, ho]
  rw [hf]; rfl

/-- The step that `OST` names is the one its code decodes to. -/
theorem stepOf_of_decode {o : Ost} {i : Instr} {rest : List Byte} (hd : decode (.ost (ostCode o)) = .ok (i, rest)) :
    stepOf o = i := by
  simp only [decode] at hd
  split at hd
  · next j hj => cases hd; simp only [stepOf, hj]
  · cases hd

/-- With no WRITE_BYTE to return from, the thread's transition is the step `OST` names. -/
theorem fetchOrch_stepOf {s : State} (hw : s.ost ≠ .handoff ∨ s.bph = .idle) : fetchOrch s = stepOf s.ost := by
  unfold fetchOrch
  exact if_neg fun ⟨hh, hb⟩ => hw.elim (· hh) hb

/-- A WRITE_BYTE that has not returned goes on with its byte transfer (log entry 23). -/
theorem fetchOrch_writeByte {s : State} (hh : s.ost = .handoff) (hb : s.bph ≠ .idle) : fetchOrch s = .writeOnly s.bh s.byte :=
  if_pos ⟨hh, hb⟩

/-! ### Unscheduled -/

/-- In IDLE and after hand-off the thread is not active, unless a byte transfer is in progress. -/
theorem threadActive_false {s : State} (ho : s.ost = .idle ∨ s.ost = .handoff) (hb : s.bph = .idle) : threadActive s = false := by
  rcases ho with ho | ho <;> simp [threadActive, ho, hb]

/-- A software request comes before BUS and XFER's unit, where the thread is not active. -/
theorem fetchUnscheduled_softwareRequest {s : State} (ht : threadActive s = false) (hr : softwareRequest s = true) :
    fetchUnscheduled s = .xferUnit := by simp [fetchUnscheduled, ht, hr]

/-- XFER refuses a software request (rule R130). -/
theorem execXferUnit_softwareRequest {s : State} (ha : s.xfer.trigOn = true) (hr : s.xfer.trigSwreq = true) :
    execXferUnit s = .refused .softwareTrigger := by simp [execXferUnit, ha, hr]

/-- BUS completes a shift where neither the thread nor a software request comes first. -/
theorem fetchUnscheduled_bus {s : State} (ht : threadActive s = false) (hr : softwareRequest s = false) (hb : s.bus.ready = false)
    (hresp : s.cfg.busResponsive = true) : fetchUnscheduled s = .busShift .complete := by
  simp [fetchUnscheduled, ht, hr, statusReady, hb, hresp]

/-- A channel that may move a unit is enabled by the bus's request (rule R129). -/
theorem xferEnabled_of_unitReady {s : State} (h : UnitReady s) : xferEnabled s = true := by
  obtain ⟨-, hhw, hreq, -⟩ := h.session
  simp [xferEnabled, busReq, h.armed.1, hhw, hreq, h.request]

/-- XFER runs on the bus's request where the thread is not active. -/
theorem fetchUnscheduled_unitReady {s : State} (ht : threadActive s = false) (h : UnitReady s) : fetchUnscheduled s = .xferUnit := by
  have hr : softwareRequest s = false := by simp [softwareRequest, h.armed.2]
  simp [fetchUnscheduled, ht, hr, statusReady, h.request, xferEnabled_of_unitReady h]

/-- With a ready bus and a channel that is not armed nobody can get on but the thread. -/
theorem fetchUnscheduled_nobody {s : State} (ht : threadActive s = false) (hb : s.bus.ready = true) (ha : s.xfer.trigOn = false) :
    fetchUnscheduled s = .hcmdNone := by
  simp [fetchUnscheduled, ht, softwareRequest, statusReady, hb, xferEnabled, ha]

/-- Settles O49: a scheduled move by its instruction, an unscheduled step by the first agent of log entry 1 that can get on. -/
theorem stepRunsTheAgents : Obligations.StepRunsTheAgents := by
  intro s more
  refine ⟨step_scheduled, step_scheduled, step_scheduled, ?answered, ?notAsked, ?idle, ?named, ?writeByte, ?software, ?bus, ?unit,
    ?nobody⟩
  case answered =>
    intro ha ho hs
    have hd : inDelay { s with agenda := more } = true := inDelay_iff.2 ⟨ho, hs⟩
    rw [step_scheduled ha, takeMove_env, answerDelay, if_pos hd]
  case notAsked =>
    intro ha hn
    have hd : ¬inDelay { s with agenda := more } = true := by
      rw [inDelay_iff]
      rintro ⟨ho, hs⟩
      rcases hn with hn | hn | hn
      · exact hn ho
      · simp [hn] at hs
      · simp [hn] at hs
    rw [step_scheduled ha, takeMove_env, answerDelay, if_neg hd]
  case idle =>
    intro ha ho
    exact (step_scheduled ha).trans (exec_fetchOrch_idle ho)
  case named =>
    intro i rest ha hw hd
    have hf : fetchOrch { s with agenda := more } = i := (fetchOrch_stepOf hw).trans (stepOf_of_decode hd)
    exact (step_scheduled ha).trans (congrArg (exec · _) hf)
  case writeByte =>
    intro ha hh hb
    exact (step_scheduled ha).trans (congrArg (exec · _) (fetchOrch_writeByte hh hb))
  case software =>
    intro ha ht hon hsw
    rw [step_unscheduled ha, fetchUnscheduled_softwareRequest ht (by simp [softwareRequest, hon, hsw])]
    exact execXferUnit_softwareRequest hon hsw
  case bus =>
    intro ha ho hb hsw hr hresp
    rw [step_unscheduled ha, fetchUnscheduled_bus (threadActive_false (.inr ho) hb) (by simp [softwareRequest, hsw]) hr hresp]
  case unit =>
    intro ha ho hb hu
    rw [step_unscheduled ha, fetchUnscheduled_unitReady (threadActive_false (.inr ho) hb) hu]
  case nobody =>
    intro ha ho hb hr hon
    rw [step_unscheduled ha, fetchUnscheduled_nobody (threadActive_false (.inl ho) hb) hr hon]
    rfl

end Sys2Proof.Machine
end

section
/-! PROOFS. The reset state, the refusals of handles and calls that no run makes, and the byte transfer on a bus that answers only where
the schedule says so. -/

namespace Sys2Proof.Machine

/-! ### Reset -/

/-- Settles O1: each value stands in `State.resetWith`, and the empty memory lists nothing. -/
theorem resetLeavesTheStatedValues : Obligations.ResetLeavesTheStatedValues := fun c =>
  ⟨State.resetWith c, rfl, rfl, rfl, rfl, rfl, rfl, rfl, rfl, rfl, rfl, rfl, rfl, rfl, rfl, rfl, rfl, rfl, rfl, fun _ => rfl, rfl⟩

/-- Settles O53: the reset state is what RESET leaves of an empty memory with nothing scheduled. -/
theorem resetHasControlInvariant : Obligations.ResetHasControlInvariant := fun c => controlInv_reset c [] 0 []

/-! ### Other channels and overlapping calls -/

/-- A bus operation on the handle of another channel is refused (log entry 9). -/
theorem onBus_other {ch : Nat} {s : State} (h : selectBus s.cfg s.cfg.busCh ≠ some ch) (f : Result) :
    onBus (some ch) s f = .refused .channelNotCarried := if_neg h

/-- A transfer operation on the handle of another channel is refused (log entry 9). -/
theorem onXfer_other {ch : Nat} {s : State} (h : selectXfer s.cfg.xferCh ≠ some ch) (f : Result) :
    onXfer (some ch) s f = .refused .channelNotCarried := if_neg h

/-- ENTRY is refused inside a byte transfer (log entry 11). -/
theorem execEntry_overlap {s : State} (hb : s.bph ≠ .idle) (tag len : Byte) (ps : List Byte) :
    execEntry tag len ps s = .refused .transferInProgress := if_neg hb

/-- `play` is refused inside a byte transfer. -/
theorem execPlay_overlap {s : State} (hb : s.bph ≠ .idle) (k : Sinks) : execPlay k s = .refused .transferInProgress := if_neg hb

/-- A sink called by itself is refused inside a byte transfer. -/
theorem callAlone_overlap {s : State} (hb : s.bph ≠ .idle) (c : SinkCall) : callAlone c s = .refused .transferInProgress := if_neg hb

/-- Settles O26: the guards `onBus` and `onXfer` refuse another channel's handle, the guards on `BPH` an overlapping call. -/
theorem otherChannelsAndOverlapsAreRefused : Obligations.OtherChannelsAndOverlapsAreRefused := by
  intro s ch hz b tag len a c ps k
  refine ⟨?bus, ?xfer, ?overlap⟩
  case bus => intro h; exact ⟨onBus_other h _, onBus_other h _, onBus_other h _, onBus_other h _, onBus_other h _⟩
  case xfer => intro h; exact ⟨onXfer_other h _, onXfer_other h _, onXfer_other h _, onXfer_other h _⟩
  case overlap =>
    intro hb
    exact ⟨execEntry_overlap hb tag len ps, execPlay_overlap hb k, callAlone_overlap hb _, callAlone_overlap hb _⟩

/-! ### The two waits on a bus that does not answer (log entries 8 and 19) -/

/-- On the selected channel's handle `write_only` is the byte transfer. -/
theorem exec_writeOnly_selected {s : State} {ch : Nat} (h : selectBus s.cfg s.cfg.busCh = some ch) (b : Byte) :
    exec (.writeOnly (some ch) b) s = .next (runTransfer b s) := onBus_selected h

/-- On the selected channel's handle `transfer_byte` is the byte transfer and the read of the received byte. -/
theorem exec_transferByte_selected {s : State} {ch : Nat} (h : selectBus s.cfg s.cfg.busCh = some ch) (b : Byte) :
    exec (.transferByte (some ch) b) s = .next (readReceived (runTransfer b s)) := onBus_selected h

/-- A call that has not returned returns no byte. -/
theorem readReceived_waiting {s : State} (hb : s.bph ≠ .idle) : readReceived s = s := if_neg hb

/-- A call that has returned returns the byte in `BUS.DAT` (rule R23). -/
theorem readReceived_returned {s : State} (hb : s.bph = .idle) : readReceived s = { s with result := .byte s.bus.dat } := if_pos hb

/-- The second wait on a busy bus that does not answer. -/
theorem runSecondWait_hung {s : State} (hb : s.bus.ready = false) (hr : s.cfg.busResponsive = false) : runSecondWait s = s := by
  simp [runSecondWait, waitReady_hung hb hr]

/-- The second wait on a ready bus returns. -/
theorem runSecondWait_ready {s : State} (hb : s.bus.ready = true) : runSecondWait s = { s with bph := .idle } := by
  simp [runSecondWait, waitReady_ready hb]

/-- The first wait on a busy bus that does not answer. -/
theorem runFirstWait_hung {s : State} (b : Byte) (hb : s.bus.ready = false) (hr : s.cfg.busResponsive = false) :
    runFirstWait b s = s := by
  simp [runFirstWait, waitReady_hung hb hr]

/-- The first wait on a ready bus goes on to the second, which the data write makes busy. -/
theorem runFirstWait_ready {s : State} (b : Byte) (hb : s.bus.ready = true) (hr : s.cfg.busResponsive = false) :
    runFirstWait b s = { regWrite (.busDat b) s with bph := .w2 } := by
  simp only [runFirstWait, waitReady_ready hb]
  exact runSecondWait_hung rfl hr

/-- Begun on a busy bus, a transfer stays in its first wait. -/
theorem runTransfer_begun_busy {s : State} (b : Byte) (hi : s.bph = .idle) (hb : s.bus.ready = false)
    (hr : s.cfg.busResponsive = false) : runTransfer b s = { s with bph := .w1 } := by
  simp only [runTransfer, hi]
  exact runFirstWait_hung b hb hr

/-- A call asked for in a first wait writes its own byte once the bus is ready. -/
theorem runTransfer_firstWait_ready {s : State} (b : Byte) (hw : s.bph = .w1) (hb : s.bus.ready = true)
    (hr : s.cfg.busResponsive = false) : runTransfer b s = { regWrite (.busDat b) s with bph := .w2 } := by
  simp only [runTransfer, hw]
  exact runFirstWait_ready b hb hr

/-- A call asked for in a second wait writes nothing and returns once the bus is ready. -/
theorem runTransfer_secondWait_ready {s : State} (b : Byte) (hw : s.bph = .w2) (hb : s.bus.ready = true) :
    runTransfer b s = { s with bph := .idle } := by
  simp only [runTransfer, hw]
  exact runSecondWait_ready hb

/-- In either wait a transfer stays while the bus is busy and does not answer. -/
theorem runTransfer_waits {s : State} (b : Byte) (hw : s.bph ≠ .idle) (hb : s.bus.ready = false)
    (hr : s.cfg.busResponsive = false) : runTransfer b s = s := by
  unfold runTransfer
  split
  · next hi => exact absurd hi hw
  · exact runFirstWait_hung b hb hr
  · exact runSecondWait_hung hb hr

/-- In a wait on a busy bus that does not answer, `write_only` and `transfer_byte` change nothing (rule R192). -/
theorem exec_transfer_waits {s : State} {ch : Nat} (b : Byte) (h : selectBus s.cfg s.cfg.busCh = some ch) (hw : s.bph ≠ .idle)
    (hb : s.bus.ready = false) (hr : s.cfg.busResponsive = false) :
    exec (.writeOnly (some ch) b) s = .next s ∧ exec (.transferByte (some ch) b) s = .next s := by
  rw [exec_writeOnly_selected h, exec_transferByte_selected h, runTransfer_waits b hw hb hr, readReceived_waiting hw]
  exact ⟨rfl, rfl⟩

/-- Settles O25: each clause is one of the two waits, ended by a ready bus or not ended. -/
theorem transferStaysInAWaitUntilReady : Obligations.TransferStaysInAWaitUntilReady := by
  intro s ch b hch hr
  refine ⟨?begunIdle, ?begunBusy, ?firstEnds, ?secondEnds⟩
  case begunIdle =>
    intro hi hb
    exact ⟨_, (exec_writeOnly_selected hch b).trans (congrArg _ (runTransfer_hung b hi hb hr)), rfl,
      exec_transfer_waits b hch (by simp) rfl hr⟩
  case begunBusy =>
    intro hi hb
    exact ⟨_, (exec_writeOnly_selected hch b).trans (congrArg _ (runTransfer_begun_busy b hi hb hr)), rfl,
      exec_transfer_waits b hch (by simp) hb hr⟩
  case firstEnds =>
    intro hw hb
    exact (exec_writeOnly_selected hch b).trans (congrArg _ (runTransfer_firstWait_ready b hw hb hr))
  case secondEnds =>
    intro hw hb
    rw [exec_writeOnly_selected hch, exec_transferByte_selected hch, runTransfer_secondWait_ready b hw hb, readReceived_returned rfl]
    exact ⟨rfl, rfl⟩

end Sys2Proof.Machine
end

section
/-! PROOFS. What every operation does to `OST`, the two traces and `MALFORMED`, said once for each shared operation: it keeps `OST`, only
extends the traces, and sets `MALFORMED` only where it reads the table. The instructions that end no step are such operations. -/

namespace Sys2Proof.Machine

/-- From `s` to `t` `OST` is kept and the traces only grow; `MALFORMED` is kept, or set where the operation reads the table. -/
structure Operates (reads : Bool) (s t : State) : Prop where
  ost : t.ost = s.ost
  tr : s.tr <+: t.tr
  rw : s.rw <+: t.rw
  malformed : t.malformed = s.malformed ∨ (reads = true ∧ t.malformed = true)

/-- An update of other fields. -/
theorem operates_of_eq {r : Bool} {s t : State} (ho : t.ost = s.ost) (htr : t.tr = s.tr) (hrw : t.rw = s.rw)
    (hm : t.malformed = s.malformed) : Operates r s t :=
  ⟨ho, by rw [htr], by rw [hrw], .inl hm⟩

/-- An update that records a panel event. -/
theorem operates_of_event {r : Bool} {s t : State} (e : Event) (ho : t.ost = s.ost) (htr : t.tr = s.tr ++ [e]) (hrw : t.rw = s.rw)
    (hm : t.malformed = s.malformed) : Operates r s t :=
  ⟨ho, ⟨[e], htr.symm⟩, by rw [hrw], .inl hm⟩

theorem Operates.refl {r : Bool} (s : State) : Operates r s s := operates_of_eq rfl rfl rfl rfl

theorem Operates.trans {r : Bool} {s t u : State} (h : Operates r s t) (k : Operates r t u) : Operates r s u where
  ost := k.ost.trans h.ost
  tr := h.tr.trans k.tr
  rw := h.rw.trans k.rw
  malformed := by
    obtain hk | hk := k.malformed
    · rw [hk]; exact h.malformed
    · exact .inr hk

/-! ### Shared operations -/

section
variable {r : Bool} (s : State)

theorem operates_startShift (b : Byte) : Operates r s (startShift b s) := operates_of_event _ rfl rfl rfl rfl

theorem operates_completeShift : Operates r s (completeShift s) := operates_of_eq rfl rfl rfl rfl

theorem operates_gpioOutput (line : Line) : Operates r s (gpioOutput line s) := by
  cases line <;> exact operates_of_event _ rfl rfl rfl rfl

theorem operates_gpioSet (line : Line) (level : Bool) : Operates r s (gpioSet line level s) := by
  cases line <;> exact operates_of_event _ rfl rfl rfl rfl

theorem operates_countAction : Operates r s (countAction s) := operates_of_eq rfl rfl rfl rfl

theorem operates_delay (n : Nat) : Operates r s (delay n s) := operates_of_event _ rfl rfl rfl rfl

/-- Of the register writes only that of `BUS.DAT` is seen by the panel. -/
theorem regWrite_extends_tr (w : RegW) : s.tr <+: (regWrite w s).tr := by cases w <;> simp

theorem operates_regWrite (w : RegW) : Operates r s (regWrite w s) :=
  ⟨by simp, regWrite_extends_tr s w, by simp, .inl (by simp)⟩

theorem operates_setControlOn (h : Handle) (w : Word) : Operates r s (setControlOn h w s) := by
  cases h with
  | none => exact .refl s
  | some ch => exact operates_regWrite s (.xferCon w)

theorem operates_regWrites (ws : List RegW) : Operates r s (regWrites ws s) := by
  induction ws generalizing s with
  | nil => exact .refl s
  | cons w rest ih => exact (operates_regWrite s w).trans (ih _)

/-- One access of an action of two writes on a handle, and the count of the action where it is over. -/
theorem operates_oneWriteOf (h : Handle) (w v : RegW) : Operates r s (oneWriteOf (writesOn h [w, v]) countAction s) := by
  obtain ⟨-, e⟩ | ⟨-, -, e⟩ | ⟨-, -, e⟩ := oneWriteOf_writesOn_cases h w v countAction s <;> rw [e]
  · exact operates_countAction s
  · exact (operates_regWrite s w).trans (operates_of_eq rfl rfl rfl rfl)
  · exact (operates_regWrite s v).trans (operates_of_eq rfl rfl rfl rfl)

theorem operates_transferOn (h : Handle) (b : Byte) : Operates r s (transferOn h b s) :=
  ⟨by simp, (transferOn_traces h b s).1, (transferOn_traces h b s).2, .inl (by simp)⟩

theorem operates_readReceived : Operates r s (readReceived s) := by
  unfold readReceived
  split
  · exact operates_of_eq rfl rfl rfl rfl
  · exact .refl s

theorem operates_orchestratorSink (c : SinkCall) : Operates r s (orchestratorSink c s) :=
  (operates_gpioSet s .dc (sinkLevel c)).trans (operates_transferOn _ _ (sinkByte c))

theorem operates_callSink (k : Sinks) (c : SinkCall) : Operates r s (callSink k c s) := by
  cases k with
  | orchestrator => exact operates_orchestratorSink s c
  | recording => exact operates_of_eq rfl rfl rfl rfl

theorem operates_afterSink : Operates r s (afterSink s) := by
  rw [afterSink_eq]
  exact operates_of_eq rfl rfl rfl rfl

/-- A sink that begins: the line, then the first wait or, on handle `none`, the sink's return. -/
theorem operates_beginSink (c : SinkCall) : Operates r s (beginSink c s) := by
  refine (operates_gpioSet s .dc (sinkLevel c)).trans ?_
  obtain ⟨-, e⟩ | ⟨-, e⟩ := beginSink_cases c s <;> rw [e]
  · exact operates_of_eq rfl rfl rfl rfl
  · exact operates_afterSink _

/-- A sink that runs whole, and the phase after it. -/
theorem operates_sinkCall (k : Sinks) (c : SinkCall) : Operates r s (afterSink (callSink k c s)) :=
  (operates_callSink s k c).trans (operates_afterSink _)

/-- The inner loop over parameters already decoded reads no table. -/
theorem operates_sendParameters (ps : List Byte) : Operates r s (sendParameters ps s) := by
  induction ps generalizing s with
  | nil => exact .refl s
  | cons p rest ih =>
    unfold sendParameters
    split
    · have hread : Operates r s (parameterRead p s) := operates_of_eq rfl rfl rfl rfl
      exact (hread.trans (operates_sinkCall _ .orchestrator (.parameter p))).trans (ih _)
    · exact .refl s

theorem operates_moveUnit : Operates r s (moveUnit s) := operates_of_event _ rfl rfl rfl rfl

end

section
variable {r : Bool} {s t : State}

/-- The free word of step 7 touches neither `OST` nor the traces nor `MALFORMED`. -/
theorem operates_setupDestination : Operates r s (setupDestination s) := by
  have hdraw : Operates r s (drawDestination s) := by
    rw [drawDestination_frame]
    exact operates_of_eq rfl rfl rfl rfl
  exact hdraw.trans (operates_oneWriteOf _ _ _ _)

theorem operates_setClockRateOn {h : Handle} {hz : Nat} (e : setClockRateOn h hz s = .next t) : Operates r s t := by
  obtain ⟨-, rfl⟩ | ⟨p, -, -, rfl⟩ := setClockRateOn_next e
  · exact .refl _
  · exact operates_regWrite s _

theorem operates_setupControl (e : setupControl s = .next t) : Operates r s t := by
  obtain ⟨-, rfl⟩ | ⟨w, -, -, rfl⟩ := setupControl_next e
  · exact .refl _
  · exact operates_regWrite s _

theorem operates_triggerOn {h : Handle} (e : triggerOn h s = .next t) : Operates r s t := by
  obtain ⟨-, rfl⟩ | ⟨-, -, rfl⟩ := triggerOn_next e
  · exact .refl _
  · exact operates_regWrite s _

/-- A guarded bus operation does what it does on the selected channel. -/
theorem operates_onBus {h : Handle} {f : Result} (e : onBus h s f = .next t) (hf : f = .next t → Operates r s t) :
    Operates r s t := by
  obtain ⟨-, rfl⟩ | ⟨ch, -, -, e⟩ := onBus_next e
  · exact .refl _
  · exact hf e

/-- A guarded transfer operation does what it does on the selected channel. -/
theorem operates_onXfer {h : Handle} {f : Result} (e : onXfer h s f = .next t) (hf : f = .next t → Operates r s t) :
    Operates r s t := by
  obtain ⟨-, rfl⟩ | ⟨ch, -, -, e⟩ := onXfer_next e
  · exact .refl _
  · exact hf e

/-- An outcome that is one next state. -/
theorem operates_next {u : State} (e : (.next u : Result) = .next t) (h : Operates r s u) : Operates r s t := by
  cases e; exact h

/-! ### The table readers -/

/-- A table read may set `MALFORMED`, and never clears it (10_state.md rule R18). -/
theorem operates_tableFetch {off : Nat} {b : Byte} (e : tableFetch off s = .ok (b, t)) : Operates true s t := by
  obtain ⟨-, rfl⟩ | ⟨-, -, rfl⟩ := tableFetch_ok e
  · exact .refl _
  · exact ⟨rfl, by simp, by simp, .inr ⟨rfl, rfl⟩⟩

theorem operates_readHeader (e : readHeader s = .ok t) : Operates true s t := by
  unfold readHeader at e
  split at e
  · cases e
  · next tag u hu =>
    split at e
    · cases e
    · next len v hv =>
      cases e
      exact ((operates_tableFetch hu).trans (operates_tableFetch hv)).trans (operates_of_eq rfl rfl rfl rfl)

theorem operates_readParameter (e : readParameter s = .ok t) : Operates true s t := by
  unfold readParameter at e
  split at e
  · cases e
  · next b u hu =>
    cases e
    exact (operates_tableFetch hu).trans (operates_of_eq rfl rfl rfl rfl)

theorem operates_playParameters {n : Nat} {k : Sinks} (e : playParameters n k s = .next t) : Operates true s t := by
  induction n generalizing s with
  | zero => cases e; exact .refl _
  | succ m ih =>
    unfold playParameters at e
    split at e
    · split at e
      · cases e
      · next u hu =>
        exact ((operates_readParameter hu).trans (operates_sinkCall u k (.parameter u.byte))).trans (ih e)
    · cases e; exact .refl _

theorem operates_playEntry {k : Sinks} (e : playEntry k s = .next t) : Operates true s t := by
  unfold playEntry at e
  split at e
  · cases e
  · next u hu =>
    exact ((operates_readHeader hu).trans (operates_sinkCall u k (.command u.byte))).trans (operates_playParameters e)

theorem operates_playEntries {n : Nat} {k : Sinks} (e : playEntries n k s = .next t) : Operates true s t := by
  induction n generalizing s with
  | zero => cases e; exact .refl _
  | succ m ih =>
    unfold playEntries at e
    split at e
    · obtain ⟨u, hu, e⟩ := andThen_next e
      exact (operates_playEntry hu).trans (ih e)
    · cases e; exact .refl _

/-! ### Instructions that end no step -/

theorem operates_execEntry {tag len : Byte} {ps : List Byte} (e : execEntry tag len ps s = .next t) : Operates r s t := by
  unfold execEntry at e
  split at e
  · cases e
    have hread : Operates r s (headerRead tag len s) := operates_of_eq rfl rfl rfl rfl
    exact (hread.trans (operates_sinkCall _ .orchestrator (.command tag))).trans (operates_sendParameters _ ps)
  · cases e

theorem operates_execPlay {k : Sinks} (e : execPlay k s = .next t) : Operates true s t := by
  unfold execPlay at e
  split at e
  · have hstart : Operates true s (startPlay s) := operates_of_eq rfl rfl rfl rfl
    exact hstart.trans (operates_playEntries e)
  · cases e

theorem operates_execTableRead {off : Nat} (e : execTableRead off s = .next t) : Operates true s t := by
  unfold execTableRead at e
  split at e
  · cases e
  · next b u hu => exact operates_next e ((operates_tableFetch hu).trans (operates_of_eq rfl rfl rfl rfl))

theorem operates_execWriteByte {harg : Word} (e : execWriteByte harg s = .next t) : Operates r s t := by
  obtain ⟨-, -, -, rfl⟩ := execWriteByte_next e
  have hbyte : Operates r s { s with byte := harg.setWidth 8 } := operates_of_eq rfl rfl rfl rfl
  exact hbyte.trans (operates_transferOn _ _ _)

theorem operates_callAlone {c : SinkCall} (e : callAlone c s = .next t) : Operates r s t := by
  unfold callAlone at e
  split at e
  · exact operates_next e (operates_orchestratorSink s c)
  · cases e

theorem operates_execReadPrescaler {h : Handle} (e : execReadPrescaler h s = .next t) : Operates r s t := by
  unfold execReadPrescaler at e
  split at e
  · exact operates_next e (operates_of_eq rfl rfl rfl rfl)
  · exact operates_onBus e fun e => operates_next e (operates_of_eq rfl rfl rfl rfl)

theorem operates_execTransferByte {h : Handle} {b : Byte} (e : execTransferByte h b s = .next t) : Operates r s t := by
  unfold execTransferByte at e
  split at e
  · exact operates_next e (operates_of_eq rfl rfl rfl rfl)
  · exact operates_onBus e fun e => operates_next e ((operates_transferOn s _ b).trans (operates_readReceived _))

theorem operates_execBusShift {k : ShiftStep} (e : execBusShift k s = .next t) : Operates r s t := by
  cases k with
  | start b =>
    simp only [execBusShift] at e
    split at e
    · exact operates_next e (operates_startShift s b)
    · cases e
  | complete =>
    refine operates_next e ?_
    split
    · exact .refl s
    · exact operates_completeShift s
  | rearm => exact operates_next e (operates_of_eq rfl rfl rfl rfl)

theorem operates_execXferUnit (e : execXferUnit s = .next t) : Operates r s t := by
  obtain rfl | ⟨-, -, rfl⟩ := execXferUnit_next e
  · exact .refl _
  · exact operates_moveUnit s

theorem operates_execHandoff (e : execHandoff s = .next t) : Operates r s t := by
  obtain ⟨-, e⟩ := atStep_next e
  exact operates_next e (.refl s)

theorem operates_execDelayMs {n : Nat} (e : execDelayMs n s = .next t) : Operates r s t := by
  refine operates_next e ?_
  obtain ⟨-, e⟩ | ⟨-, e⟩ := delayThen_cases n id s <;> rw [e]
  · exact operates_delay s n
  · exact .refl s

end

end Sys2Proof.Machine
end

section
/-! PROOFS. Every instruction but RESET stays in its step or ends it (43_orchestrator.md rule R151); with that the traces grow, `MALFORMED`
sticks, and `OST` only goes forward. -/

namespace Sys2Proof.Machine

/-! ### The instructions -/

/-- An instruction stays in its step, or ends it with the entry to the next. -/
inductive Advances (reads : Bool) (s : State) : State → Prop where
  | stays {t : State} (h : Operates reads s t) : Advances reads s t
  | ends {t : State} (h : Operates reads s t) (o : Ost) (next : (ostCode o).toNat = (ostCode s.ost).toNat + 1) :
      Advances reads s (enterStep o t)

section
variable {r : Bool} {s t : State}

/-- `OST` stays or goes up by one. -/
theorem Advances.ost (h : Advances r s t) : t.ost = s.ost ∨ (ostCode t.ost).toNat = (ostCode s.ost).toNat + 1 := by
  cases h with
  | stays h => exact .inl h.ost
  | ends h o next => exact .inr next

/-- The traces only grow (rule R38). -/
theorem Advances.traces (h : Advances r s t) : s.tr <+: t.tr ∧ s.rw <+: t.rw := by
  cases h with
  | stays h => exact ⟨h.tr, h.rw⟩
  | ends h o next => exact ⟨h.tr, h.rw⟩

/-- `MALFORMED` is kept, or set by a table reader (rule R18). -/
theorem Advances.malformed (h : Advances r s t) : t.malformed = s.malformed ∨ (r = true ∧ t.malformed = true) := by
  cases h with
  | stays h => exact h.malformed
  | ends h o next => exact h.malformed

theorem advances_execInit {fb : Addr} (e : execInit fb s = .next t) : Advances r s t := by
  obtain ⟨ho, rfl⟩ := execInit_next e
  have htake : Operates r s { s with fbb := fb, bh := selectBus s.cfg s.cfg.busCh, xh := selectXfer s.cfg.xferCh } :=
    operates_of_eq rfl rfl rfl rfl
  exact .ends htake .pincfg (by simp [ho, ostCode])

theorem advances_execStep1PinConfig (e : execStep1PinConfig s = .next t) : Advances r s t := by
  obtain ⟨ho, ⟨-, rfl⟩ | ⟨-, rfl⟩⟩ := execStep1PinConfig_next e
  · exact .stays ((operates_gpioOutput s .rst).trans (operates_countAction _))
  · exact .ends (operates_gpioOutput s .dc) _ (by simp [ho, ostCode])

theorem advances_execStep2BusBringup (e : execStep2BusBringup s = .next t) : Advances r s t := by
  obtain ⟨ho, ⟨-, rfl⟩ | ⟨-, u, hu, rfl⟩⟩ := execStep2BusBringup_next e
  · exact .stays (operates_oneWriteOf s _ _ _)
  · exact .ends (operates_setClockRateOn hu) _ (by simp [ho, ostCode])

theorem advances_execStep3ResetPulse (e : execStep3ResetPulse s = .next t) : Advances r s t := by
  obtain ⟨ho, ⟨-, rfl⟩ | ⟨-, rfl⟩ | ⟨-, rfl⟩ | ⟨-, rfl⟩⟩ := execStep3ResetPulse_next e
  · exact .stays ((operates_gpioSet s .rst false).trans (operates_countAction _))
  · obtain ⟨-, e⟩ | ⟨-, e⟩ := delayThen_cases s.cfg.tLowMs countAction s <;> rw [e]
    · exact .stays ((operates_delay s _).trans (operates_countAction _))
    · exact .stays (.refl s)
  · exact .stays ((operates_gpioSet s .rst true).trans (operates_countAction _))
  · obtain ⟨-, e⟩ | ⟨-, e⟩ := delayThen_cases s.cfg.tHighMs (fun u => startPlay (enterStep .play u)) s <;> rw [e]
    · have hstart : Operates r s (startPlay (delay s.cfg.tHighMs s)) :=
        (operates_delay s _).trans (operates_of_eq rfl rfl rfl rfl)
      exact .ends hstart .play (by simp [ho, ostCode])
    · exact .stays (.refl s)

theorem advances_execStep4CommandPlayback (e : execStep4CommandPlayback s = .next t) : Advances true s t := by
  obtain ⟨ho, e⟩ := atStep_next e
  obtain ⟨-, -, rfl⟩ | ⟨-, -, rfl⟩ | ⟨-, -, rfl⟩ | ⟨-, -, -, rfl⟩ | ⟨-, -, -, u, hu, rfl⟩ | ⟨-, -, rfl⟩ |
    ⟨-, -, -, u, hu, rfl⟩ := playTransition_next e
  · exact .stays (.refl _)
  · exact .stays ((operates_regWrite s _).trans (operates_of_eq rfl rfl rfl rfl))
  · have hback : Operates true s { s with bph := .idle } := operates_of_eq rfl rfl rfl rfl
    exact .stays (hback.trans (operates_afterSink _))
  · exact .ends (.refl s) .window (by simp [ho, ostCode])
  · exact .stays ((operates_readHeader hu).trans (operates_beginSink u _))
  · exact .stays (operates_afterSink s)
  · exact .stays ((operates_readParameter hu).trans (operates_beginSink u _))

theorem advances_execStep5Window (e : execStep5Window s = .next t) : Advances r s t := by
  obtain ⟨ho, rfl⟩ := execStep5Window_next e
  exact .ends (.refl s) _ (by simp [ho, ostCode])

theorem advances_execStep6DataMode (e : execStep6DataMode s = .next t) : Advances r s t := by
  obtain ⟨ho, rfl⟩ := execStep6DataMode_next e
  exact .ends (operates_gpioSet s .dc true) _ (by simp [ho, ostCode])

theorem advances_execStep7SessionSetup (e : execStep7SessionSetup s = .next t) : Advances r s t := by
  obtain ⟨ho, ⟨-, rfl⟩ | ⟨-, rfl⟩ | ⟨-, u, hu, rfl⟩⟩ := execStep7SessionSetup_next e
  · exact .stays (operates_oneWriteOf s _ _ _)
  · exact .stays operates_setupDestination
  · exact .ends (operates_setupControl hu) _ (by simp [ho, ostCode])

theorem advances_execStep8Trigger (e : execStep8Trigger s = .next t) : Advances r s t := by
  obtain ⟨ho, -, u, hu, rfl⟩ := execStep8Trigger_next e
  exact .ends (operates_triggerOn hu) _ (by simp [ho, ostCode])

/-- Every instruction but RESET; only the table readers of `footprint` may set `MALFORMED`. -/
theorem exec_advances {i : Instr} (hi : i ≠ .reset) (e : exec i s = .next t) : Advances (footprint i).malformed s t := by
  cases i with
  | entry tag len ps => exact .stays (operates_execEntry e)
  | init fb => exact advances_execInit e
  | writeByte harg => exact .stays (operates_execWriteByte e)
  | hcmdNone => exact .stays (operates_next e (.refl s))
  | hcmdReserved => exact .stays (operates_next e (.refl s))
  | step1PinConfig => exact advances_execStep1PinConfig e
  | step2BusBringup => exact advances_execStep2BusBringup e
  | step3ResetPulse => exact advances_execStep3ResetPulse e
  | step4CommandPlayback => exact advances_execStep4CommandPlayback e
  | step5Window => exact advances_execStep5Window e
  | step6DataMode => exact advances_execStep6DataMode e
  | step7SessionSetup => exact advances_execStep7SessionSetup e
  | step8Trigger => exact advances_execStep8Trigger e
  | handoff => exact .stays (operates_execHandoff e)
  | play k => exact .stays (operates_execPlay e)
  | selectBus ch => exact .stays (operates_next e (operates_of_eq rfl rfl rfl rfl))
  | configure h m => exact .stays (operates_onBus e fun e => operates_next e (operates_regWrites s _))
  | setClockRate h hz => exact .stays (operates_onBus e operates_setClockRateOn)
  | readPrescaler h => exact .stays (operates_execReadPrescaler e)
  | transferByte h b => exact .stays (operates_execTransferByte e)
  | writeOnly h b => exact .stays (operates_onBus e fun e => operates_next e (operates_transferOn s h b))
  | busShift k => exact .stays (operates_execBusShift e)
  | selectXfer ch => exact .stays (operates_next e (operates_of_eq rfl rfl rfl rfl))
  | setSource h a c => exact .stays (operates_onXfer e fun e => operates_next e (operates_regWrites s _))
  | setDestination h a c => exact .stays (operates_onXfer e fun e => operates_next e (operates_regWrites s _))
  | setControl h w => exact .stays (operates_onXfer e fun e => operates_next e (operates_setControlOn s h w))
  | trigger h => exact .stays (operates_onXfer e operates_triggerOn)
  | xferUnit => exact .stays (operates_execXferUnit e)
  | gpioOutput line => exact .stays (operates_next e (operates_gpioOutput s line))
  | gpioSet line level => exact .stays (operates_next e (operates_gpioSet s line level))
  | delayMs n => exact .stays (operates_execDelayMs e)
  | writeCommand b => exact .stays (operates_callAlone e)
  | writeParameter b => exact .stays (operates_callAlone e)
  | tableRead off => exact .stays (operates_execTableRead e)
  | reset => exact absurd rfl hi

end

/-- Settles O57: by what every instruction but RESET can do to the traces and `MALFORMED`. -/
theorem tracesGrowAndMalformedSticks : Obligations.TracesGrowAndMalformedSticks := by
  intro i s t hi e
  have h := exec_advances hi e
  refine ⟨h.traces.1, h.traces.2, fun hs => ?sticks, fun hf => ?kept⟩
  case sticks => exact h.malformed.elim (·.trans hs) (·.2)
  case kept =>
    obtain hm | ⟨hr, -⟩ := h.malformed
    · exact hm
    · rw [hf] at hr; cases hr

/-! ### The step -/

/-- Neither the step `OST` names, nor what the thread runs, nor a host command is RESET. -/
theorem stepOf_ne_reset (o : Ost) : stepOf o ≠ .reset := by cases o <;> decide

theorem fetchPlay_ne_reset (s : State) : fetchPlay s ≠ .reset := by
  obtain ⟨-, -, -, tag, len, ps, hf, -⟩ | hf := fetchPlay_cases s <;> simp [hf]

theorem fetchThread_ne_reset (s : State) : fetchThread s ≠ .reset := by
  unfold fetchThread
  split
  · exact fetchPlay_ne_reset s
  · split <;> simp
  · exact stepOf_ne_reset _

theorem fetchUnscheduled_ne_reset (s : State) : fetchUnscheduled s ≠ .reset := by
  obtain hf | hf | hf | hf := fetchUnscheduled_cases s <;> rw [hf]
  · exact fetchThread_ne_reset s
  all_goals simp

theorem fetchOrch_ne_reset (s : State) : fetchOrch s ≠ .reset := by
  obtain ⟨-, -, hf⟩ | hf := fetchOrch_cases s <;> rw [hf]
  · simp
  · exact stepOf_ne_reset _

theorem decodeHcmd_ne_reset (code : BitVec 2) (harg : Word) : decodeHcmd code harg ≠ .reset := by
  unfold decodeHcmd
  split <;> simp

/-- A framebuffer write of HOST leaves `OST`. -/
theorem hostWriteByte_ost {a : Addr} {b : Byte} {s t : State} (e : hostWriteByte a b s = .next t) : t.ost = s.ost := by
  unfold hostWriteByte at e
  split at e
  · cases e; rfl
  · cases e

/-- A scheduled move other than RESET leaves `OST` or takes it up by one. -/
theorem takeMove_ost {m : Move} {s t : State} (hm : m ≠ .reset) (e : takeMove m s = .next t) :
    t.ost = s.ost ∨ (ostCode t.ost).toNat = (ostCode s.ost).toNat + 1 := by
  cases m with
  | orch => exact (exec_advances (fetchOrch_ne_reset s) e).ost
  | bus => exact (exec_advances (i := .busShift .complete) (by simp) e).ost
  | xfer => exact (exec_advances (i := .xferUnit) (by simp) e).ost
  | env => cases e; exact .inl (answerDelay_ost s)
  | host code harg => exact (exec_advances (decodeHcmd_ne_reset code harg) e).ost
  | hostWrite a b => exact .inl (hostWriteByte_ost e)
  | reset => exact absurd rfl hm

/-- Settles O54: a step runs an instruction that stays in its step or ends it, or one of the two moves that leave `OST`, or RESET. -/
theorem orchestratorIsStrictlyForward : Obligations.OrchestratorIsStrictlyForward := by
  intro s t e
  cases ha : s.agenda with
  | nil =>
    rw [step_unscheduled ha] at e
    exact (exec_advances (fetchUnscheduled_ne_reset s) e).ost.imp_right .inl
  | cons m more =>
    rw [step_scheduled ha] at e
    by_cases hm : m = .reset
    · subst hm
      cases e
      exact .inr (.inr ⟨rfl, rfl⟩)
    · exact (takeMove_ost hm e).imp_right .inl

end Sys2Proof.Machine
end

section
/-! PROOFS. What an instruction may write, as one equation: the state with the parts of a footprint blanked is the same before and after.
Each shared operation satisfies it for every footprint that names the parts the operation writes. -/

namespace Sys2Proof.Machine

/-! ### The frame -/

/-- The state with the parts of the footprint blanked, and, where `takes` says so, what INIT latches. The traces, the returned values and
the count of free values are outside every claim and always blanked. -/
def State.frame (f : Footprint) (takes : Bool) (s : State) : State where
  cfg := s.cfg
  ost := if f.position then .idle else s.ost
  sub := if f.position then 0#2 else s.sub
  bph := if f.transfer then .idle else s.bph
  midAction := if f.action then false else s.midAction
  delayDone := if f.action then false else s.delayDone
  fbb := if takes then 0#32 else s.fbb
  bh := if takes then none else s.bh
  xh := if takes then none else s.xh
  tp := if f.sequencer then 0 else s.tp
  rem := if f.sequencer then 0#8 else s.rem
  ph := if f.sequencer then .head else s.ph
  byte := if f.seqByte then 0#8 else s.byte
  malformed := if f.malformed then false else s.malformed
  gpio := if f.lines then ⟨false, false, false, false⟩ else s.gpio
  bus :=
    { con := if f.busCon then 0#8 else s.bus.con
      ready := if f.busReady then true else s.bus.ready
      dat := if f.busData then 0#8 else s.bus.dat
      pre := if f.busPre then 0#8 else s.bus.pre
      shift := if f.busData then 0#8 else s.bus.shift }
  xfer := if f.xfer then ⟨0#32, 0#32, 0#32, 0#32, 0#32, false, false, 0#32, 0#32, 0#20⟩ else s.xfer
  mem := s.mem
  tr := []
  rw := []
  calls := []
  result := .nothing
  drawn := 0
  agenda := s.agenda

/-- From `s` to `t` nothing outside the footprint is written. -/
def WritesOnly (f : Footprint) (takes : Bool) (s t : State) : Prop := t.frame f takes = s.frame f takes

/-- The footprint has the parts that a byte transfer writes (41_bus_channel.md rules R106 and R108). -/
structure Footprint.Sends (f : Footprint) : Prop where
  ready : f.busReady = true
  data : f.busData = true
  transfer : f.transfer = true

/-- The footprint has the parts that a sink of the orchestrator's binding writes (43_orchestrator.md rules R160 and R161). -/
structure Footprint.CallsSinks (f : Footprint) : Prop extends f.Sends where
  lines : f.lines = true

/-- The footprint has the parts that play writes inside the table (40_sequencer.md rule R89). -/
structure Footprint.Plays (f : Footprint) : Prop extends f.CallsSinks where
  sequencer : f.sequencer = true
  seqByte : f.seqByte = true

/-- The footprint has the part that a write of the register changes, the shifter's for `BUS.CON` and `BUS.DAT` (10_state.md rules R21
and R23). -/
def Footprint.hasReg (f : Footprint) (w : RegW) : Bool :=
  match w with
  | .busCon _ => f.busCon && f.busReady
  | .busDat _ => f.busReady && f.busData
  | .busPre _ => f.busPre
  | .xferSrc _ => f.xfer
  | .xferSrcc _ => f.xfer
  | .xferDst _ => f.xfer
  | .xferDstc _ => f.xfer
  | .xferCon _ => f.xfer
  | .xferTrig _ => f.xfer

/-! ### Shared operations -/

section
variable {f : Footprint} {k : Bool} (s : State)

theorem WritesOnly.refl : WritesOnly f k s s := rfl

theorem WritesOnly.trans {s t u : State} (h : WritesOnly f k s t) (g : WritesOnly f k t u) : WritesOnly f k s u := Eq.trans g h

/-- System memory is in no footprint. -/
theorem WritesOnly.mem {s t : State} (h : WritesOnly f k s t) : t.mem = s.mem :=
  have hmem : (t.frame f k).mem = (s.frame f k).mem := by rw [h]
  hmem

theorem writesOnly_returning (r : OpResult) : WritesOnly f k s (returning r s) := rfl

theorem writesOnly_startShift (hr : f.busReady = true) (hd : f.busData = true) (b : Byte) : WritesOnly f k s (startShift b s) := by
  simp [WritesOnly, State.frame, hr, hd]

theorem writesOnly_completeShift (hr : f.busReady = true) (hd : f.busData = true) : WritesOnly f k s (completeShift s) := by
  simp [WritesOnly, State.frame, hr, hd]

theorem writesOnly_rearmShift (hr : f.busReady = true) : WritesOnly f k s (rearmShift s) := by
  simp [WritesOnly, State.frame, hr]

/-- Whatever is written to `BUS.CON`, the data registers and the prescaler stay (10_state.md rule R21). -/
theorem regWrite_busCon_keeps (v : Byte) : (regWrite (.busCon v) s).bus.dat = s.bus.dat ∧
    (regWrite (.busCon v) s).bus.pre = s.bus.pre ∧ (regWrite (.busCon v) s).bus.shift = s.bus.shift := by
  by_cases hv : v = 0#8
  · subst hv; simp
  · simp [regWrite_busCon_bus v hv]

theorem writesOnly_regWrite {w : RegW} (hw : f.hasReg w = true) : WritesOnly f k s (regWrite w s) := by
  cases w with
  | busCon v =>
    obtain ⟨hc, hr⟩ : f.busCon = true ∧ f.busReady = true := by simpa [Footprint.hasReg] using hw
    simp [WritesOnly, State.frame, hc, hr, regWrite_busCon_keeps s v]
  | busDat v =>
    obtain ⟨hr, hd⟩ : f.busReady = true ∧ f.busData = true := by simpa [Footprint.hasReg] using hw
    simp [WritesOnly, State.frame, hr, hd]
  | busPre v =>
    have hp : f.busPre = true := hw
    simp [WritesOnly, State.frame, hp]
  | _ =>
    have hx : f.xfer = true := hw
    simp [WritesOnly, State.frame, hx]

theorem writesOnly_gpioOutput (hl : f.lines = true) (line : Line) : WritesOnly f k s (gpioOutput line s) := by
  simp [WritesOnly, State.frame, hl]

theorem writesOnly_gpioSet (hl : f.lines = true) (line : Line) (level : Bool) : WritesOnly f k s (gpioSet line level s) := by
  simp [WritesOnly, State.frame, hl]

theorem writesOnly_countAction (hp : f.position = true) : WritesOnly f k s (countAction s) := by
  simp [WritesOnly, State.frame, hp]

theorem writesOnly_enterStep (hp : f.position = true) (o : Ost) : WritesOnly f k s (enterStep o s) := by
  simp [WritesOnly, State.frame, hp]

theorem writesOnly_delay (ha : f.action = true) (n : Nat) : WritesOnly f k s (delay n s) := by
  simp [WritesOnly, State.frame, ha]

theorem writesOnly_startPlay (hq : f.sequencer = true) : WritesOnly f k s (startPlay s) := by
  simp [WritesOnly, State.frame, hq]

theorem writesOnly_headerRead (hf : f.Plays) (tag len : Byte) : WritesOnly f k s (headerRead tag len s) := by
  simp [WritesOnly, State.frame, hf.sequencer, hf.seqByte]

theorem writesOnly_parameterRead (hf : f.Plays) (b : Byte) : WritesOnly f k s (parameterRead b s) := by
  simp [WritesOnly, State.frame, hf.sequencer, hf.seqByte]

theorem writesOnly_bph (ht : f.transfer = true) (p : BytePhase) : WritesOnly f k s { s with bph := p } := by
  simp [WritesOnly, State.frame, ht]

theorem writesOnly_midAction (ha : f.action = true) (m : Bool) : WritesOnly f k s { s with midAction := m } := by
  simp [WritesOnly, State.frame, ha]

theorem writesOnly_transferOn (hf : f.Sends) (h : Handle) (b : Byte) : WritesOnly f k s (transferOn h b s) := by
  simp [WritesOnly, State.frame, hf.ready, hf.data, hf.transfer, transferOn_bus_fixed h b s]

theorem writesOnly_moveUnit (hx : f.xfer = true) (hr : f.busReady = true) (hd : f.busData = true) :
    WritesOnly f k s (moveUnit s) := by
  simp [WritesOnly, State.frame, moveUnit, hx, hr, hd]

theorem writesOnly_regWrites {ws : List RegW} (hw : ∀ w ∈ ws, f.hasReg w = true) : WritesOnly f k s (regWrites ws s) := by
  induction ws generalizing s with
  | nil => exact .refl s
  | cons w rest ih =>
    rw [List.forall_mem_cons] at hw
    exact (writesOnly_regWrite s hw.1).trans (ih _ hw.2)

/-- On the handle `none` an operation makes no write at all. -/
theorem writesOnly_regWrites_writesOn {w v : RegW} (hw : f.hasReg w = true) (hv : f.hasReg v = true) (h : Handle) :
    WritesOnly f k s (regWrites (writesOn h [w, v]) s) := by
  cases h with
  | none => exact .refl s
  | some ch => exact writesOnly_regWrites s (by simp [writesOn, hw, hv])

theorem writesOnly_setControlOn (hx : f.xfer = true) (h : Handle) (w : Word) : WritesOnly f k s (setControlOn h w s) := by
  cases h with
  | none => exact .refl s
  | some ch => exact writesOnly_regWrite s hx

/-- One access of an action of two writes, and the count of the action where it is over. -/
theorem writesOnly_oneWriteOf {w v : RegW} (hw : f.hasReg w = true) (hv : f.hasReg v = true) (ha : f.action = true)
    (hp : f.position = true) (h : Handle) : WritesOnly f k s (oneWriteOf (writesOn h [w, v]) countAction s) := by
  obtain ⟨-, e⟩ | ⟨-, -, e⟩ | ⟨-, -, e⟩ := oneWriteOf_writesOn_cases h w v countAction s <;> rw [e]
  · exact writesOnly_countAction s hp
  · exact (writesOnly_regWrite s hw).trans (writesOnly_midAction _ ha true)
  · exact ((writesOnly_regWrite s hv).trans (writesOnly_midAction _ ha false)).trans (writesOnly_countAction _ hp)

theorem writesOnly_readReceived : WritesOnly f k s (readReceived s) := by
  unfold readReceived
  split
  · exact writesOnly_returning s _
  · exact .refl s

theorem writesOnly_orchestratorSink (hf : f.CallsSinks) (c : SinkCall) : WritesOnly f k s (orchestratorSink c s) :=
  (writesOnly_gpioSet s hf.lines .dc (sinkLevel c)).trans (writesOnly_transferOn _ hf.toSends _ (sinkByte c))

theorem writesOnly_afterSink (hq : f.sequencer = true) : WritesOnly f k s (afterSink s) := by
  simp [WritesOnly, State.frame, hq]

/-- A sink that runs whole, and the phase after it; a recording sink is the caller's own. -/
theorem writesOnly_sinkCall (hf : f.Plays) (d : Sinks) (c : SinkCall) : WritesOnly f k s (afterSink (callSink d c s)) := by
  refine WritesOnly.trans ?_ (writesOnly_afterSink _ hf.sequencer)
  cases d with
  | orchestrator => exact writesOnly_orchestratorSink s hf.toCallsSinks c
  | recording => rfl

/-- A sink that begins: the line, then the first wait or, on handle `none`, the sink's return. -/
theorem writesOnly_beginSink (hf : f.Plays) (c : SinkCall) : WritesOnly f k s (beginSink c s) := by
  refine (writesOnly_gpioSet s hf.lines .dc (sinkLevel c)).trans ?_
  obtain ⟨-, e⟩ | ⟨-, e⟩ := beginSink_cases c s <;> rw [e]
  · exact writesOnly_bph _ hf.transfer .w1
  · exact writesOnly_afterSink _ hf.sequencer

theorem writesOnly_sendParameters (hf : f.Plays) (ps : List Byte) : WritesOnly f k s (sendParameters ps s) := by
  induction ps generalizing s with
  | nil => exact .refl s
  | cons p rest ih =>
    unfold sendParameters
    split
    · exact ((writesOnly_parameterRead s hf p).trans (writesOnly_sinkCall _ hf .orchestrator (.parameter p))).trans (ih _)
    · exact .refl s

end

section
variable {f : Footprint} {k : Bool} {s t : State}

theorem writesOnly_next {u : State} (e : (.next u : Result) = .next t) (h : WritesOnly f k s u) : WritesOnly f k s t := by
  cases e; exact h

/-- The free word of step 7 is in no part. -/
theorem writesOnly_setupDestination (hx : f.xfer = true) (ha : f.action = true) (hp : f.position = true) :
    WritesOnly f k s (setupDestination s) := by
  have hdraw : WritesOnly f k s (drawDestination s) := by rw [drawDestination_frame]; rfl
  exact hdraw.trans (writesOnly_oneWriteOf (w := .xferDst _) (v := .xferDstc _) _ hx hx ha hp _)

theorem writesOnly_setClockRateOn (hp : f.busPre = true) {h : Handle} {hz : Nat} (e : setClockRateOn h hz s = .next t) :
    WritesOnly f k s t := by
  obtain ⟨-, rfl⟩ | ⟨p, -, -, rfl⟩ := setClockRateOn_next e
  · exact .refl _
  · exact writesOnly_regWrite s hp

theorem writesOnly_setupControl (hx : f.xfer = true) (e : setupControl s = .next t) : WritesOnly f k s t := by
  obtain ⟨-, rfl⟩ | ⟨w, -, -, rfl⟩ := setupControl_next e
  · exact .refl _
  · exact writesOnly_regWrite s hx

theorem writesOnly_triggerOn (hx : f.xfer = true) {h : Handle} (e : triggerOn h s = .next t) : WritesOnly f k s t := by
  obtain ⟨-, rfl⟩ | ⟨-, -, rfl⟩ := triggerOn_next e
  · exact .refl _
  · exact writesOnly_regWrite s hx

/-- A guarded bus operation writes what it writes on the selected channel. -/
theorem writesOnly_onBus {h : Handle} {r : Result} (e : onBus h s r = .next t) (hr : r = .next t → WritesOnly f k s t) :
    WritesOnly f k s t := by
  obtain ⟨-, rfl⟩ | ⟨ch, -, -, e⟩ := onBus_next e
  · exact .refl _
  · exact hr e

/-- A guarded transfer operation writes what it writes on the selected channel. -/
theorem writesOnly_onXfer {h : Handle} {r : Result} (e : onXfer h s r = .next t) (hr : r = .next t → WritesOnly f k s t) :
    WritesOnly f k s t := by
  obtain ⟨-, rfl⟩ | ⟨ch, -, -, e⟩ := onXfer_next e
  · exact .refl _
  · exact hr e

/-- A delay that is not over writes nothing; one that is over records the wait before what follows it. -/
theorem writesOnly_delayThen {n : Nat} {g : State → State} (ha : f.action = true) (hg : ∀ u, WritesOnly f k u (g u)) :
    WritesOnly f k s (delayThen n g s) := by
  obtain ⟨-, e⟩ | ⟨-, e⟩ := delayThen_cases n g s <;> rw [e]
  · exact (writesOnly_delay s ha n).trans (hg _)
  · exact .refl s

/-! ### The table readers -/

/-- A table read writes `MALFORMED` at most (20_memory.md rule R41). -/
theorem writesOnly_tableFetch (hm : f.malformed = true) {off : Nat} {b : Byte} (e : tableFetch off s = .ok (b, t)) :
    WritesOnly f k s t := by
  rw [tableFetch_frame e]
  simp [WritesOnly, State.frame, hm]

theorem writesOnly_readHeader (hf : f.Plays) (hm : f.malformed = true) (e : readHeader s = .ok t) : WritesOnly f k s t := by
  obtain ⟨tag, len, e⟩ := readHeader_ok e
  have hfetch : WritesOnly f k s { s with malformed := t.malformed, drawn := t.drawn } := by simp [WritesOnly, State.frame, hm]
  rw [e]
  exact hfetch.trans (writesOnly_headerRead _ hf tag len)

theorem writesOnly_readParameter (hf : f.Plays) (hm : f.malformed = true) (e : readParameter s = .ok t) : WritesOnly f k s t := by
  obtain ⟨b, e⟩ := readParameter_ok e
  have hfetch : WritesOnly f k s { s with malformed := t.malformed, drawn := t.drawn } := by simp [WritesOnly, State.frame, hm]
  rw [e]
  exact hfetch.trans (writesOnly_parameterRead _ hf b)

theorem writesOnly_playParameters (hf : f.Plays) (hm : f.malformed = true) {n : Nat} {d : Sinks}
    (e : playParameters n d s = .next t) : WritesOnly f k s t := by
  induction n generalizing s with
  | zero => exact writesOnly_next e (.refl s)
  | succ m ih =>
    unfold playParameters at e
    split at e
    · split at e
      · cases e
      · next u hu =>
        exact ((writesOnly_readParameter hf hm hu).trans (writesOnly_sinkCall u hf d (.parameter u.byte))).trans (ih e)
    · exact writesOnly_next e (.refl s)

theorem writesOnly_playEntry (hf : f.Plays) (hm : f.malformed = true) {d : Sinks} (e : playEntry d s = .next t) :
    WritesOnly f k s t := by
  unfold playEntry at e
  split at e
  · cases e
  · next u hu =>
    exact ((writesOnly_readHeader hf hm hu).trans (writesOnly_sinkCall u hf d (.command u.byte))).trans
      (writesOnly_playParameters hf hm e)

theorem writesOnly_playEntries (hf : f.Plays) (hm : f.malformed = true) {n : Nat} {d : Sinks} (e : playEntries n d s = .next t) :
    WritesOnly f k s t := by
  induction n generalizing s with
  | zero => exact writesOnly_next e (.refl s)
  | succ m ih =>
    unfold playEntries at e
    split at e
    · obtain ⟨u, hu, e⟩ := andThen_next e
      exact (writesOnly_playEntry hf hm hu).trans (ih e)
    · exact writesOnly_next e (.refl s)

end

end Sys2Proof.Machine
end

section
/-! PROOFS. Every instruction writes only its own footprint. -/

namespace Sys2Proof.Machine

section
variable {f : Footprint} {k : Bool} {s t : State}

theorem writesOnly_execEntry (hf : f.Plays) {tag len : Byte} {ps : List Byte} (e : execEntry tag len ps s = .next t) :
    WritesOnly f k s t := by
  unfold execEntry at e
  split at e
  · exact writesOnly_next e (((writesOnly_headerRead s hf tag len).trans
      (writesOnly_sinkCall _ hf .orchestrator (.command tag))).trans (writesOnly_sendParameters _ hf ps))
  · cases e

/-- INIT alone latches the framebuffer base and the handles (10_state.md rule R17). -/
theorem writesOnly_execInit (hp : f.position = true) {fb : Addr} (e : execInit fb s = .next t) : WritesOnly f true s t := by
  obtain ⟨-, rfl⟩ := execInit_next e
  simp [WritesOnly, State.frame, hp]

theorem writesOnly_execWriteByte (hf : f.Sends) (hb : f.seqByte = true) {harg : Word} (e : execWriteByte harg s = .next t) :
    WritesOnly f k s t := by
  obtain ⟨-, -, -, rfl⟩ := execWriteByte_next e
  have hbyte : WritesOnly f k s { s with byte := harg.setWidth 8 } := by simp [WritesOnly, State.frame, hb]
  exact hbyte.trans (writesOnly_transferOn _ hf _ _)

theorem writesOnly_execStep1PinConfig (e : execStep1PinConfig s = .next t) : WritesOnly (footprint .step1PinConfig) k s t := by
  obtain ⟨-, ⟨-, rfl⟩ | ⟨-, rfl⟩⟩ := execStep1PinConfig_next e
  · exact (writesOnly_gpioOutput s rfl .rst).trans (writesOnly_countAction _ rfl)
  · exact (writesOnly_gpioOutput s rfl .dc).trans (writesOnly_enterStep _ rfl _)

theorem writesOnly_execStep2BusBringup (e : execStep2BusBringup s = .next t) : WritesOnly (footprint .step2BusBringup) k s t := by
  obtain ⟨-, ⟨-, rfl⟩ | ⟨-, u, hu, rfl⟩⟩ := execStep2BusBringup_next e
  · exact writesOnly_oneWriteOf s rfl rfl rfl rfl _
  · exact (writesOnly_setClockRateOn rfl hu).trans (writesOnly_enterStep _ rfl _)

theorem writesOnly_execStep3ResetPulse (e : execStep3ResetPulse s = .next t) : WritesOnly (footprint .step3ResetPulse) k s t := by
  obtain ⟨-, ⟨-, rfl⟩ | ⟨-, rfl⟩ | ⟨-, rfl⟩ | ⟨-, rfl⟩⟩ := execStep3ResetPulse_next e
  · exact (writesOnly_gpioSet s rfl .rst false).trans (writesOnly_countAction _ rfl)
  · exact writesOnly_delayThen rfl fun u => writesOnly_countAction u rfl
  · exact (writesOnly_gpioSet s rfl .rst true).trans (writesOnly_countAction _ rfl)
  · exact writesOnly_delayThen rfl fun u => (writesOnly_enterStep u rfl .play).trans (writesOnly_startPlay _ rfl)

theorem writesOnly_execStep4CommandPlayback (e : execStep4CommandPlayback s = .next t) :
    WritesOnly (footprint .step4CommandPlayback) k s t := by
  have hf : (footprint .step4CommandPlayback).Plays := ⟨⟨⟨rfl, rfl, rfl⟩, rfl⟩, rfl, rfl⟩
  obtain ⟨-, e⟩ := atStep_next e
  obtain ⟨-, -, rfl⟩ | ⟨-, -, rfl⟩ | ⟨-, -, rfl⟩ | ⟨-, -, -, rfl⟩ | ⟨-, -, -, u, hu, rfl⟩ | ⟨-, -, rfl⟩ |
    ⟨-, -, -, u, hu, rfl⟩ := playTransition_next e
  · exact .refl _
  · exact (writesOnly_regWrite s rfl).trans (writesOnly_bph _ rfl .w2)
  · exact (writesOnly_bph s rfl .idle).trans (writesOnly_afterSink _ rfl)
  · exact writesOnly_enterStep s rfl .window
  · exact (writesOnly_readHeader hf rfl hu).trans (writesOnly_beginSink u hf _)
  · exact writesOnly_afterSink s rfl
  · exact (writesOnly_readParameter hf rfl hu).trans (writesOnly_beginSink u hf _)

theorem writesOnly_execStep5Window (e : execStep5Window s = .next t) : WritesOnly (footprint .step5Window) k s t := by
  obtain ⟨-, rfl⟩ := execStep5Window_next e
  exact writesOnly_enterStep s rfl _

theorem writesOnly_execStep6DataMode (e : execStep6DataMode s = .next t) : WritesOnly (footprint .step6DataMode) k s t := by
  obtain ⟨-, rfl⟩ := execStep6DataMode_next e
  exact (writesOnly_gpioSet s rfl .dc true).trans (writesOnly_enterStep _ rfl _)

theorem writesOnly_execStep7SessionSetup (e : execStep7SessionSetup s = .next t) :
    WritesOnly (footprint .step7SessionSetup) k s t := by
  obtain ⟨-, ⟨-, rfl⟩ | ⟨-, rfl⟩ | ⟨-, u, hu, rfl⟩⟩ := execStep7SessionSetup_next e
  · exact writesOnly_oneWriteOf s rfl rfl rfl rfl _
  · exact writesOnly_setupDestination rfl rfl rfl
  · exact (writesOnly_setupControl rfl hu).trans (writesOnly_enterStep _ rfl _)

theorem writesOnly_execStep8Trigger (e : execStep8Trigger s = .next t) : WritesOnly (footprint .step8Trigger) k s t := by
  obtain ⟨-, -, u, hu, rfl⟩ := execStep8Trigger_next e
  exact (writesOnly_triggerOn rfl hu).trans (writesOnly_enterStep _ rfl _)

theorem writesOnly_execHandoff (e : execHandoff s = .next t) : WritesOnly f k s t := by
  obtain ⟨-, e⟩ := atStep_next e
  exact writesOnly_next e (.refl s)

theorem writesOnly_execPlay (hf : f.Plays) (hm : f.malformed = true) {d : Sinks} (e : execPlay d s = .next t) :
    WritesOnly f k s t := by
  unfold execPlay at e
  split at e
  · exact (writesOnly_startPlay s hf.sequencer).trans (writesOnly_playEntries hf hm e)
  · cases e

theorem writesOnly_execReadPrescaler {h : Handle} (e : execReadPrescaler h s = .next t) : WritesOnly f k s t := by
  unfold execReadPrescaler at e
  split at e
  · exact writesOnly_next e (writesOnly_returning s _)
  · exact writesOnly_onBus e fun e => writesOnly_next e (writesOnly_returning s _)

theorem writesOnly_execTransferByte (hf : f.Sends) {h : Handle} {b : Byte} (e : execTransferByte h b s = .next t) :
    WritesOnly f k s t := by
  unfold execTransferByte at e
  split at e
  · exact writesOnly_next e (writesOnly_returning s _)
  · exact writesOnly_onBus e fun e =>
      writesOnly_next e ((writesOnly_transferOn s hf _ b).trans (writesOnly_readReceived _))

theorem writesOnly_execBusShift (hr : f.busReady = true) (hd : f.busData = true) {c : ShiftStep} (e : execBusShift c s = .next t) :
    WritesOnly f k s t := by
  cases c with
  | start b =>
    simp only [execBusShift] at e
    split at e
    · exact writesOnly_next e (writesOnly_startShift s hr hd b)
    · cases e
  | complete =>
    refine writesOnly_next e ?_
    split
    · exact .refl s
    · exact writesOnly_completeShift s hr hd
  | rearm => exact writesOnly_next e (writesOnly_rearmShift s hr)

theorem writesOnly_execXferUnit (e : execXferUnit s = .next t) : WritesOnly (footprint .xferUnit) k s t := by
  obtain rfl | ⟨-, -, rfl⟩ := execXferUnit_next e
  · exact .refl _
  · exact writesOnly_moveUnit s rfl rfl rfl

theorem writesOnly_callAlone (hf : f.CallsSinks) {c : SinkCall} (e : callAlone c s = .next t) : WritesOnly f k s t := by
  unfold callAlone at e
  split at e
  · exact writesOnly_next e (writesOnly_orchestratorSink s hf c)
  · cases e

theorem writesOnly_execTableRead (hm : f.malformed = true) {off : Nat} (e : execTableRead off s = .next t) :
    WritesOnly f k s t := by
  unfold execTableRead at e
  split at e
  · cases e
  · next b u hu => exact writesOnly_next e ((writesOnly_tableFetch hm hu).trans (writesOnly_returning u _))

/-- The rows that write what INIT latches: INIT and RESET (10_state.md rule R17). -/
def takesHandles (i : Instr) : Bool :=
  match i with
  | .init _ => true
  | .reset => true
  | _ => false

/-- Every instruction writes only its footprint. -/
theorem exec_writesOnly {i : Instr} (e : exec i s = .next t) : WritesOnly (footprint i) (takesHandles i) s t := by
  cases i with
  | entry tag len ps => exact writesOnly_execEntry ⟨⟨⟨rfl, rfl, rfl⟩, rfl⟩, rfl, rfl⟩ e
  | init fb => exact writesOnly_execInit rfl e
  | writeByte harg => exact writesOnly_execWriteByte ⟨rfl, rfl, rfl⟩ rfl e
  | hcmdNone => exact writesOnly_next e (.refl s)
  | hcmdReserved => exact writesOnly_next e (.refl s)
  | step1PinConfig => exact writesOnly_execStep1PinConfig e
  | step2BusBringup => exact writesOnly_execStep2BusBringup e
  | step3ResetPulse => exact writesOnly_execStep3ResetPulse e
  | step4CommandPlayback => exact writesOnly_execStep4CommandPlayback e
  | step5Window => exact writesOnly_execStep5Window e
  | step6DataMode => exact writesOnly_execStep6DataMode e
  | step7SessionSetup => exact writesOnly_execStep7SessionSetup e
  | step8Trigger => exact writesOnly_execStep8Trigger e
  | handoff => exact writesOnly_execHandoff e
  | play d => exact writesOnly_execPlay ⟨⟨⟨rfl, rfl, rfl⟩, rfl⟩, rfl, rfl⟩ rfl e
  | selectBus ch => exact writesOnly_next e (writesOnly_returning s _)
  | configure h m => exact writesOnly_onBus e fun e => writesOnly_next e (writesOnly_regWrites_writesOn s rfl rfl h)
  | setClockRate h hz => exact writesOnly_onBus e (writesOnly_setClockRateOn rfl)
  | readPrescaler h => exact writesOnly_execReadPrescaler e
  | transferByte h b => exact writesOnly_execTransferByte ⟨rfl, rfl, rfl⟩ e
  | writeOnly h b => exact writesOnly_onBus e fun e => writesOnly_next e (writesOnly_transferOn s ⟨rfl, rfl, rfl⟩ h b)
  | busShift c => exact writesOnly_execBusShift rfl rfl e
  | selectXfer ch => exact writesOnly_next e (writesOnly_returning s _)
  | setSource h a c => exact writesOnly_onXfer e fun e => writesOnly_next e (writesOnly_regWrites_writesOn s rfl rfl h)
  | setDestination h a c => exact writesOnly_onXfer e fun e => writesOnly_next e (writesOnly_regWrites_writesOn s rfl rfl h)
  | setControl h w => exact writesOnly_onXfer e fun e => writesOnly_next e (writesOnly_setControlOn s rfl h w)
  | trigger h => exact writesOnly_onXfer e (writesOnly_triggerOn rfl)
  | xferUnit => exact writesOnly_execXferUnit e
  | gpioOutput line => exact writesOnly_next e (writesOnly_gpioOutput s rfl line)
  | gpioSet line level => exact writesOnly_next e (writesOnly_gpioSet s rfl line level)
  | delayMs n => exact writesOnly_next e (writesOnly_delayThen rfl fun u => .refl u)
  | writeCommand b => exact writesOnly_callAlone ⟨⟨rfl, rfl, rfl⟩, rfl⟩ e
  | writeParameter b => exact writesOnly_callAlone ⟨⟨rfl, rfl, rfl⟩, rfl⟩ e
  | tableRead off => exact writesOnly_execTableRead rfl e
  | reset => exact writesOnly_next e rfl

/-- No instruction writes system memory (20_memory.md rule R40). -/
theorem exec_mem {i : Instr} (e : exec i s = .next t) : t.mem = s.mem := (exec_writesOnly e).mem

end

theorem takesHandles_eq_false {i : Instr} (hr : i ≠ .reset) (hi : ∀ fb, i ≠ .init fb) : takesHandles i = false := by
  cases i with
  | init fb => exact absurd rfl (hi fb)
  | reset => exact absurd rfl hr
  | _ => rfl

/-- Settles O58: every instruction writes only its footprint, read part by part. -/
theorem eachBlockHasItsWriters : Obligations.EachBlockHasItsWriters := by
  intro i s t e
  have h := exec_writesOnly e
  simp only [WritesOnly, State.frame, State.mk.injEq, BusBlock.mk.injEq] at h
  obtain ⟨hcfg, host, hsub, hbph, hmid, hdelay, hfbb, hbh, hxh, htp, hrem, hph, hbyte, hmalformed, hgpio,
    ⟨hcon, hready, hdat, hpre, hshift⟩, hxfer, hmem, -, -, -, -, -, hagenda⟩ := h
  exact ⟨hcfg, hagenda, fun a => by rw [hmem], fun hf => by simpa [hf] using hxfer, fun hf => by simpa [hf] using hcon,
    fun hf => by simpa [hf] using hpre, fun hf => by simpa [hf] using hready, fun hf => by simpa [hf] using And.intro hdat hshift,
    fun hf => by simpa [hf] using hbph, fun hf => by simpa [hf] using hbyte, fun hf => by simpa [hf] using And.intro hmid hdelay,
    fun hf => by simpa [hf] using hmalformed, fun hf => by simpa [hf] using hgpio,
    fun hf => by simpa [hf] using And.intro host hsub, fun hf => by simpa [hf] using And.intro htp (And.intro hrem hph),
    fun hr hi => by simpa [takesHandles_eq_false hr hi] using And.intro hfbb (And.intro hbh hxh)⟩

end Sys2Proof.Machine
end

section
/-! PROOFS. System memory changes only by a framebuffer write of HOST, and a table read has its three outcomes. -/

namespace Sys2Proof.Machine

/-! ### Memory over a step -/

/-- HOST's framebuffer write, where the contract has it (70_reset_and_hazards.md rule R243). -/
theorem hostWriteByte_inside {s : State} (ho : s.ost = .idle ∨ s.ost = .handoff) (a : Addr) (b : Byte) :
    hostWriteByte a b s = .next { s with mem := memWrite s.mem a b } := if_pos ho

theorem hostWriteByte_outside {s : State} (ho : ¬(s.ost = .idle ∨ s.ost = .handoff)) (a : Addr) (b : Byte) :
    hostWriteByte a b s = .refused .hostOutsideContract := if_neg ho

/-- A step with a framebuffer write scheduled takes it. -/
theorem step_hostWrite {s : State} {a : Addr} {b : Byte} {more : List Move} (h : s.agenda = .hostWrite a b :: more) :
    step s = hostWriteByte a b { s with agenda := more } := step_scheduled h

/-- HOST's move writes one byte of memory, where it is no refusal. -/
theorem hostWriteByte_mem {s t : State} {a : Addr} {b : Byte} (e : hostWriteByte a b s = .next t) : t.mem = memWrite s.mem a b := by
  by_cases ho : s.ost = .idle ∨ s.ost = .handoff
  · rw [hostWriteByte_inside ho] at e; cases e; rfl
  · rw [hostWriteByte_outside ho] at e; cases e

/-- A scheduled move leaves memory as it is, or writes one byte of it for HOST. -/
theorem takeMove_mem {m : Move} {s t : State} (e : takeMove m s = .next t) :
    t.mem = s.mem ∨ ∃ a b, t.mem = memWrite s.mem a b := by
  cases m with
  | orch => exact .inl (exec_mem (i := fetchOrch s) e)
  | bus => exact .inl (exec_mem (i := .busShift .complete) e)
  | xfer => exact .inl (exec_mem (i := .xferUnit) e)
  | env => cases e; exact .inl (answerDelay_mem s)
  | host code harg => exact .inl (exec_mem (i := decodeHcmd code harg) e)
  | hostWrite a b => exact .inr ⟨a, b, hostWriteByte_mem e⟩
  | reset => exact .inl (exec_mem (i := .reset) e)

/-- So does a step. -/
theorem step_mem {s t : State} (e : step s = .next t) : t.mem = s.mem ∨ ∃ a b, t.mem = memWrite s.mem a b := by
  cases ha : s.agenda with
  | nil => exact .inl (exec_mem ((step_unscheduled ha).symm.trans e))
  | cons m more => exact takeMove_mem (s := { s with agenda := more }) ((step_scheduled ha).symm.trans e)

/-- Settles O51: a step changes memory only by HOST's write, which keeps the canonical form. -/
theorem stepsKeepMemoryCanonical : Obligations.StepsKeepMemoryCanonical := by
  refine ⟨fun s t hw e => ?canonical, fun s a b more _ ha ho => ?readBack, fun s a b more ha hi hh => ?refused⟩
  case canonical =>
    obtain hm | ⟨a, b, hm⟩ := step_mem e <;> rw [hm]
    · exact hw
    · exact memWf_memWrite s.mem a b hw
  case readBack =>
    refine ⟨_, (step_hostWrite ha).trans (hostWriteByte_inside (s := { s with agenda := more }) ho a b), ?_, fun a' hne => ?_, rfl⟩
    · exact memRead_memWrite_self s.mem a b
    · exact memRead_memWrite_ne s.mem a a' b hne
  case refused =>
    exact (step_hostWrite ha).trans (hostWriteByte_outside (s := { s with agenda := more }) (not_or.mpr ⟨hi, hh⟩) a b)

/-! ### The table -/

/-- Past the end the hardware goes on with a free byte (20_memory.md rule R41). -/
theorem tableFetch_past_goesOn {off : Nat} {s : State} (h : s.cfg.table.length ≤ off) (hs : s.cfg.overrunStops = false) :
    tableFetch off s = .ok (Config.freeByte s.drawn, setMalformed (draw s)) := by
  simp [tableFetch, List.getElem?_eq_none h, hs]

/-- Past the end a configuration may stop (rule R41). -/
theorem tableFetch_past_stops {off : Nat} {s : State} (h : s.cfg.table.length ≤ off) (hs : s.cfg.overrunStops = true) :
    tableFetch off s = .error .tableOverrun := by
  simp [tableFetch, List.getElem?_eq_none h, hs]

theorem execTableRead_ok {off : Nat} {b : Byte} {s t : State} (h : tableFetch off s = .ok (b, t)) :
    execTableRead off s = .next { t with result := .byte b } := by simp [execTableRead, h, returning]

theorem execTableRead_error {off : Nat} {r : Fault} {s : State} (h : tableFetch off s = .error r) :
    execTableRead off s = .fault r := by simp [execTableRead, h]

/-- Settles O40: by what a table fetch does inside the table and at or past its end. -/
theorem tableReadInsideAndPastTheEnd : Obligations.TableReadInsideAndPastTheEnd := by
  intro s off
  exact ⟨fun b hb => execTableRead_ok (tableFetch_inside hb), fun hl hs => execTableRead_ok (tableFetch_past_goesOn hl hs),
    fun hl hs => execTableRead_error (tableFetch_past_stops hl hs)⟩

end Sys2Proof.Machine
end

section
/-! PROOFS. The encodings of 30_encoding.md: what one entry splits into, the decoder against the encoder, and `Parse` as a recursion on the
entries of a table, without its fuel. -/

namespace Sys2Proof

/-! ### One entry -/

/-- Where the parameters the length byte claims stand in the table, they and the bytes after them are split off (rule R61). -/
theorem splitEntry_of_le {tag len : Byte} {tail : List Byte} (h : len.toNat ≤ tail.length) :
    splitEntry (tag :: len :: tail) = .ok (tag, len, tail.take len.toNat, tail.drop len.toNat) := if_pos h

/-- A length byte that claims more parameters than stand there is an error (rule R65). -/
theorem splitEntry_of_lt {tag len : Byte} {tail : List Byte} (h : tail.length < len.toNat) :
    splitEntry (tag :: len :: tail) = .error .truncatedParameters := if_neg (Nat.not_le.2 h)

/-- An entry is split off exactly where its bytes stand in front and its length byte counts its parameters. -/
theorem splitEntry_eq_ok_iff {bytes ps rest : List Byte} {tag len : Byte} :
    splitEntry bytes = .ok (tag, len, ps, rest) ↔ bytes = tag :: len :: (ps ++ rest) ∧ ps.length = len.toNat := by
  constructor
  · intro h
    match bytes with
    | [] => cases h
    | [_] => cases h
    | a :: b :: tail =>
      by_cases hb : b.toNat ≤ tail.length
      · rw [splitEntry_of_le hb] at h
        cases h
        exact ⟨by rw [List.take_append_drop], List.length_take_of_le hb⟩
      · rw [splitEntry_of_lt (Nat.not_le.1 hb)] at h
        cases h
  · rintro ⟨rfl, hl⟩
    rw [splitEntry_of_le (by simp [hl]), List.take_left' hl, List.drop_left' hl]

/-- An entry takes its two header bytes and its parameters. -/
@[simp] theorem length_entryBytes (e : Byte × List Byte) : (entryBytes e).length = 2 + e.2.length := by
  simp only [entryBytes, List.length_cons]; omega

/-- The byte image of an entry with at most 255 parameters is split off whole, whatever follows (rules R62 and R67). -/
theorem splitEntry_entryBytes {e : Byte × List Byte} (h : e.2.length ≤ 255) (rest : List Byte) :
    splitEntry (entryBytes e ++ rest) = .ok (e.1, BitVec.ofNat 8 e.2.length, e.2, rest) :=
  splitEntry_eq_ok_iff.2 ⟨rfl, by simp; omega⟩

/-- What was split off is the byte image of an entry with at most 255 parameters. -/
theorem eq_entryBytes_of_splitEntry {bytes ps rest : List Byte} {tag len : Byte}
    (h : splitEntry bytes = .ok (tag, len, ps, rest)) : bytes = entryBytes (tag, ps) ++ rest ∧ ps.length ≤ 255 := by
  obtain ⟨rfl, hl⟩ := splitEntry_eq_ok_iff.1 h
  exact ⟨by simp [entryBytes, hl], by omega⟩

/-- Decoding the bytes of a well-formed entry gives it back, with the bytes after it. -/
theorem decodeEntry_append {tag len : Byte} {ps : List Byte} (h : ps.length = len.toNat) (rest : List Byte) :
    decodeEntry (tag :: len :: (ps ++ rest)) = .ok (.entry tag len ps, rest) := by
  simp only [decodeEntry, splitEntry_eq_ok_iff.2 ⟨rfl, h⟩]

/-- Settles O44: an entry by `decodeEntry_append`; a host command or a step has one code, which its decoder's table lists; the other rows
have no code (rule R69). -/
theorem decodeOfEncode : Obligations.DecodeOfEncode := by
  intro i c hw hc
  cases i
  case entry tag len ps =>
    cases hc
    have hl : ps.length = len.toNat := by simpa [Instr.wellFormed] using hw
    simpa [decode] using decodeEntry_append (tag := tag) hl []
  case init | writeByte | hcmdNone | hcmdReserved => cases hc; rfl
  case step1PinConfig | step2BusBringup | step3ResetPulse | step4CommandPlayback | step5Window | step6DataMode | step7SessionSetup |
      step8Trigger | handoff => cases hc; rfl
  all_goals cases hc

/-- Settles O47: each code is decoded by its table. -/
theorem sampleWordsDecode : Obligations.SampleWordsDecode := ⟨rfl, rfl, rfl, rfl, rfl, rfl, rfl⟩

/-! ### `Parse` -/

/-- Fuel for every byte is enough: more of it parses the same. -/
theorem parseBytes_fuel {n m : Nat} {bytes : List Byte} (hn : bytes.length ≤ n) (hm : bytes.length ≤ m) :
    parseBytes n bytes = parseBytes m bytes := by
  induction n generalizing m bytes with
  | zero => rw [List.length_eq_zero_iff.1 (Nat.le_zero.1 hn)]; simp only [parseBytes]
  | succ n ih =>
    match m, bytes with
    | _, [] => simp only [parseBytes]
    | m + 1, b :: bs =>
      simp only [parseBytes]
      split
      · next tag len ps rest hs =>
        have hlen : bs.length + 1 = ps.length + rest.length + 2 := by
          simpa using congrArg List.length (splitEntry_eq_ok_iff.1 hs).1
        simp only [List.length_cons] at hn hm
        rw [ih (m := m) (by omega) (by omega)]
      · rfl

@[simp] theorem parseTable_nil : parseTable [] = some [] := rfl

/-- `Parse` where an entry stands in front: that entry, then `Parse` of the bytes after it (rule R64). -/
theorem parseTable_of_ok {bytes ps rest : List Byte} {tag len : Byte} (h : splitEntry bytes = .ok (tag, len, ps, rest)) :
    parseTable bytes = (parseTable rest).map ((tag, ps) :: ·) := by
  obtain ⟨rfl, -⟩ := splitEntry_eq_ok_iff.1 h
  simp only [parseTable, List.length_cons, parseBytes, h]
  rw [parseBytes_fuel (by simp; omega) le_rfl]

/-- `Parse` where bytes are left and no entry stands in front: malformed (rule R64). -/
theorem parseTable_of_error {bytes : List Byte} {err : DecodeError} (hne : bytes ≠ []) (h : splitEntry bytes = .error err) :
    parseTable bytes = none := by
  obtain ⟨b, bs, rfl⟩ := List.exists_cons_of_ne_nil hne
  simp only [parseTable, List.length_cons, parseBytes, h]

/-- Only the empty table has no entries. -/
theorem parseTable_eq_some_nil_iff {T : List Byte} : parseTable T = some [] ↔ T = [] := by
  refine ⟨fun h => ?_, fun h => h ▸ parseTable_nil⟩
  by_contra hne
  cases hs : splitEntry T with
  | ok p => simp [parseTable_of_ok hs] at h
  | error err => simp [parseTable_of_error hne hs] at h

/-- A table's first entry is the one whose byte image it begins with. -/
theorem parseTable_eq_some_cons_iff {T : List Byte} {e : Byte × List Byte} {es : List (Byte × List Byte)} :
    parseTable T = some (e :: es) ↔ ∃ rest, T = entryBytes e ++ rest ∧ e.2.length ≤ 255 ∧ parseTable rest = some es := by
  constructor
  · intro h
    have hne : T ≠ [] := by rintro rfl; simp at h
    cases hs : splitEntry T with
    | ok p =>
      rw [parseTable_of_ok hs] at h
      obtain ⟨hT, hlen⟩ := eq_entryBytes_of_splitEntry hs
      obtain ⟨tail, hrest, heq⟩ := Option.map_eq_some_iff.1 h
      cases heq
      exact ⟨_, hT, hlen, hrest⟩
    | error err => simp [parseTable_of_error hne hs] at h
  · rintro ⟨rest, rfl, hlen, hrest⟩
    rw [parseTable_of_ok (splitEntry_entryBytes hlen rest), hrest]
    rfl

/-- Settles O46: by induction on the entries, each the byte image in front of the table that is left. -/
theorem parseInvertsTheByteImage : Obligations.ParseInvertsTheByteImage := by
  intro T es
  induction es generalizing T with
  | nil => simp [parseTable_eq_some_nil_iff]
  | cons e es ih =>
    simp only [parseTable_eq_some_cons_iff, ih, List.flatMap_cons, List.forall_mem_cons]
    constructor
    · rintro ⟨rest, rfl, he, rfl, hes⟩
      exact ⟨rfl, he, hes⟩
    · rintro ⟨rfl, he, hes⟩
      exact ⟨_, rfl, he, rfl, hes⟩

/-- The bytes from an offset on are the one there and the bytes from the next offset on. -/
theorem drop_eq_cons_of_getElem? {T : List Byte} {o : Nat} {b : Byte} (h : T[o]? = some b) : T.drop o = b :: T.drop (o + 1) := by
  rw [List.drop_eq_getElem?_toList_append, h]
  rfl

/-- Settles O45: each equation is `Parse` at what stands at the offset; the consumed bytes are the lengths of the byte images. -/
theorem parseEquations : Obligations.ParseEquations := by
  intro T o
  refine ⟨fun h => ?atEnd, fun tag len ht hl hle => ?entry, fun ho hbad => ?malformed, Option.isSome_iff_exists, fun es h => ?consumed⟩
  case atEnd => rw [List.drop_eq_nil_of_le h, parseTable_nil]
  case entry =>
    have hfits : len.toNat ≤ (T.drop (o + 2)).length := by rw [List.length_drop]; omega
    rw [drop_eq_cons_of_getElem? ht, drop_eq_cons_of_getElem? hl, parseTable_of_ok (splitEntry_of_le hfits), List.drop_drop]
  case malformed =>
    have hhead := List.drop_eq_getElem_cons ho
    obtain hnone | ⟨len, hl, hlt⟩ := hbad
    · have hlast : T.drop (o + 1) = [] := List.drop_eq_nil_of_le (List.getElem?_eq_none_iff.1 hnone)
      rw [hhead, hlast, parseTable_of_error (List.cons_ne_nil _ _) rfl]
    · have hlen : o + 1 < T.length := (List.getElem?_eq_some_iff.1 hl).1
      have hshort : (T.drop (o + 2)).length < len.toNat := by rw [List.length_drop]; omega
      rw [hhead, drop_eq_cons_of_getElem? hl, parseTable_of_error (List.cons_ne_nil _ _) (splitEntry_of_lt hshort)]
  case consumed =>
    obtain ⟨rfl, -⟩ := (parseInvertsTheByteImage T es).1 h
    simp only [List.length_flatMap, length_entryBytes]

end Sys2Proof
end

section
/-! PROOFS. The operand words as the formulas of 30_encoding.md rules R70 to R72. -/

namespace Sys2Proof.Machine

/-- The master's mode word is its fields, each shifted to its place (rule R70). -/
theorem modeWord_eq_or : ∀ (dirmode : BitVec 2) (cpol cpha : BitVec 1), modeWord dirmode 1#1 1#1 cpol cpha =
    (0x18#8 ||| (dirmode.setWidth 8 <<< 5) ||| (cpol.setWidth 8 <<< 2) ||| (cpha.setWidth 8 <<< 1)) := by decide

/-- `COUNT` stands in the low bits of a control word, clear of its other fields (rule R72). -/
theorem controlWord_eq_or_count (mode : BitVec 1) (reqsrc : BitVec 3) (trigsel noreload : BitVec 1) (usize : BitVec 2)
    (count : BitVec 20) : controlWord mode reqsrc trigsel noreload usize count =
      (controlWord mode reqsrc trigsel noreload usize 0#20 ||| count.setWidth 32) := by
  simp only [controlWord, BitVec.append_def _ count, BitVec.append_def _ 0#20]
  simp

/-- The fields above `COUNT` of the orchestrator's control word: handshake, hardware trigger and byte units are fixed (rule R72). -/
theorem controlWord_zero_count : ∀ (reqsrc : BitVec 3) (noreload : BitVec 1), controlWord 1#1 reqsrc 1#1 noreload 0#2 0#20 =
    (0x80800000#32 ||| (reqsrc.setWidth 32 <<< 24) ||| (noreload.setWidth 32 <<< 22)) := by decide

/-- Settles O15: each word is its fields put together, `COUNT` within its 20 bits. -/
theorem operandWordsFollowTheirFormulas : Obligations.OperandWordsFollowTheirFormulas := by
  intro c
  refine ⟨modeWord_eq_or _ _ _, ?srcc, rfl, fun h1 h2 => ?inRange, fun h => ctlWord_out_of_range fun ⟨h1, h2⟩ => ?outOfRange⟩
  case srcc => unfold srccBits; cases c.srcInc <;> rfl
  case inRange =>
    rw [ctlWord_of_range h1 h2, controlWord_eq_or_count, controlWord_zero_count,
      BitVec.setWidth_ofNat_of_le_of_lt (by decide) h2]
    cases c.reload <;> rfl
  case outOfRange => exact h.elim (Nat.ne_of_gt h1) (Nat.not_le.2 h2)

end Sys2Proof.Machine
end

section
/-! PROOFS. A step runs the instruction that is decoded from the table, from `OST`, or from the host port. -/

namespace Sys2Proof.Machine

/-- Settles O5: both codes have the meaning that changes nothing. -/
theorem idleHostCodesHaveNoEffect : Obligations.IdleHostCodesHaveNoEffect := fun _ => ⟨rfl, rfl⟩

/-- With nothing scheduled, an active thread that is in no wait comes first (log entry 1). -/
theorem fetchUnscheduled_thread {s : State} (ht : threadActive s = true) (hw : threadWaits s = false) :
    fetchUnscheduled s = fetchThread s := by simp [fetchUnscheduled, ht, hw]

/-- At a head inside the table with no byte transfer in progress, the thread runs the entry whose bytes stand at `TP` (rule R81). -/
theorem fetchPlay_of_decode {s : State} {i : Instr} {rest : List Byte} (hb : s.bph = .idle) (hp : s.ph = .head)
    (htp : s.tp < s.cfg.table.length) (hd : decodeEntry (s.cfg.table.drop s.tp) = .ok (i, rest)) : fetchPlay s = i := by
  have hover : playOver s = false := decide_eq_false (Nat.not_le.2 htp)
  rw [fetchPlay, if_pos ⟨hb, hp, hover⟩, hd]

/-- `OST` names no step in IDLE (70_reset_and_hazards.md rule R221). -/
theorem ne_idle_of_decode {o : Ost} {i : Instr} {rest : List Byte} (hd : decode (.ost (ostCode o)) = .ok (i, rest)) : o ≠ .idle := by
  rintro rfl
  cases hd

/-- Settles O48: at a head and at a step the thread is active and in no wait; a scheduled command is decoded from the port. -/
theorem stepRunsTheDecodedInstruction : Obligations.StepRunsTheDecodedInstruction := by
  intro s i rest
  refine ⟨fun ha ho hp hb htp hd => ?entry, fun ha hp hh hw hd => ?named, fun code harg more ha hd => ?command⟩
  case entry =>
    have ht : threadActive s = true := by simp [threadActive, ho]
    have hn : inDelay s = false := Bool.eq_false_iff.2 fun h => by simp [inDelay_iff, ho] at h
    have hw : threadWaits s = false := by simp [threadWaits, hb, hn]
    have hf : fetchThread s = fetchPlay s := by simp [fetchThread, ho]
    rw [step_unscheduled ha, fetchUnscheduled_thread ht hw, hf, fetchPlay_of_decode hb hp htp hd]
  case named =>
    have ht : threadActive s = true := by simp [threadActive, hh, ne_idle_of_decode hd]
    rw [step_unscheduled ha, fetchUnscheduled_thread ht hw, fetchThread_stepOf hp hh, stepOf_of_decode hd]
  case command =>
    cases hd
    exact step_scheduled ha

end Sys2Proof.Machine
end

section
/-! PROOFS. The transitions of step 4 (40_sequencer.md rule R89), each an equation: what a header or parameter read gives inside the table and
past its end, what a sink begins, and where the thread goes on. -/

namespace Sys2Proof.Machine

/-! ### Reading the table -/

/-- A header is its two reads, the second after whatever the first left behind (rule R89). -/
theorem readHeader_of_tableFetch {s t u : State} {tag len : Byte} (ht : tableFetch s.tp s = .ok (tag, t))
    (hl : tableFetch (s.tp + 1) t = .ok (len, u)) : readHeader s = .ok (headerRead tag len u) := by simp only [readHeader, ht, hl]

theorem readParameter_of_tableFetch {s t : State} {b : Byte} (hb : tableFetch s.tp s = .ok (b, t)) :
    readParameter s = .ok (parameterRead b t) := by simp only [readParameter, hb]

/-- Inside the table a header read changes nothing but the sequencer's registers. -/
theorem readHeader_inside {s : State} {tag len : Byte} (ht : s.cfg.table[s.tp]? = some tag) (hl : s.cfg.table[s.tp + 1]? = some len) :
    readHeader s = .ok (headerRead tag len s) := readHeader_of_tableFetch (tableFetch_inside ht) (tableFetch_inside hl)

theorem readParameter_inside {s : State} {b : Byte} (hb : s.cfg.table[s.tp]? = some b) :
    readParameter s = .ok (parameterRead b s) := readParameter_of_tableFetch (tableFetch_inside hb)

/-- A header whose length byte is missing stops a model (rule R88). -/
theorem readHeader_last_stops {s : State} {tag : Byte} (ht : s.cfg.table[s.tp]? = some tag) (hl : s.cfg.table.length ≤ s.tp + 1)
    (hs : s.cfg.overrunStops = true) : readHeader s = .error .tableOverrun := by
  simp only [readHeader, tableFetch_inside ht, tableFetch_past_stops hl hs]

/-- The hardware goes on with a free length (log entry 6). -/
theorem readHeader_last_goesOn {s : State} {tag : Byte} (ht : s.cfg.table[s.tp]? = some tag) (hl : s.cfg.table.length ≤ s.tp + 1)
    (hs : s.cfg.overrunStops = false) :
    readHeader s = .ok (headerRead tag (Config.freeByte s.drawn) { s with malformed := true, drawn := s.drawn + 1 }) :=
  readHeader_of_tableFetch (tableFetch_inside ht) (tableFetch_past_goesOn hl hs)

theorem readParameter_past_stops {s : State} (hl : s.cfg.table.length ≤ s.tp) (hs : s.cfg.overrunStops = true) :
    readParameter s = .error .tableOverrun := by simp only [readParameter, tableFetch_past_stops hl hs]

/-- The hardware goes on with a free parameter (log entry 6). -/
theorem readParameter_past_goesOn {s : State} (hl : s.cfg.table.length ≤ s.tp) (hs : s.cfg.overrunStops = false) :
    readParameter s = .ok (parameterRead (Config.freeByte s.drawn) { s with malformed := true, drawn := s.drawn + 1 }) :=
  readParameter_of_tableFetch (tableFetch_past_goesOn hl hs)

/-! ### Sinks -/

/-- Where no byte transfer is in progress the sink has returned, and `REM` decides the phase (rule R89). -/
theorem afterSink_returned {s : State} (hb : s.bph = .idle) :
    afterSink s = { s with ph := if s.rem = 0#8 then .head else .param } := if_pos hb

/-- On a valid handle a sink sets the line and then waits for the bus (rules R89 and R106). -/
theorem beginSink_some {s : State} {ch : Nat} (hh : s.bh = some ch) (c : SinkCall) :
    beginSink c s = { gpioSet .dc (sinkLevel c) s with bph := .w1 } := by simp [beginSink, hh]

/-- On handle `none` a sink sets the line and returns (rule R174). -/
theorem beginSink_none {s : State} (hh : s.bh = none) (hb : s.bph = .idle) (c : SinkCall) :
    beginSink c s = { gpioSet .dc (sinkLevel c) s with ph := if s.rem = 0#8 then .head else .param } := by
  simp [beginSink, hh, afterSink_returned, hb]

/-! ### The transitions -/

theorem exec_step4 {s : State} (ho : s.ost = .play) : exec .step4CommandPlayback s = playTransition s := atStep_self ho

section
variable {s : State}

/-- In either wait of a byte transfer the thread polls a busy bus (41_bus_channel.md rule R106). -/
theorem playTransition_poll (hb : s.bph ≠ .idle) (hr : s.bus.ready = false) : playTransition s = .next s := by
  cases hp : s.bph with
  | idle => exact absurd hp hb
  | w1 | w2 => simp [playTransition, hp, statusReady, hr]

/-- The first wait over, the byte is written to the data register. -/
theorem playTransition_dataWrite (hb : s.bph = .w1) (hr : s.bus.ready = true) :
    playTransition s = .next { regWrite (.busDat s.byte) s with bph := .w2 } := by simp [playTransition, hb, statusReady, hr]

/-- The second wait over, the sink returns. -/
theorem playTransition_return (hb : s.bph = .w2) (hr : s.bus.ready = true) :
    playTransition s = .next { s with bph := .idle, ph := if s.rem = 0#8 then .head else .param } := by
  simp [playTransition, hb, statusReady, hr, afterSink_returned]

/-- At a head at the table's end play is over (rule R80). -/
theorem playTransition_over (hb : s.bph = .idle) (hp : s.ph = .head) (hl : s.cfg.table.length ≤ s.tp) :
    playTransition s = .next (enterStep .window s) := by simp [playTransition, hb, hp, playOver, hl]

/-- At a head inside the table the header is read and the tag's sink begun. -/
theorem playTransition_header {t : State} (hb : s.bph = .idle) (hp : s.ph = .head) (hl : s.tp < s.cfg.table.length)
    (hr : readHeader s = .ok t) : playTransition s = .next (beginSink (.command t.byte) t) := by
  simp [playTransition, hb, hp, playOver, hl, hr]

theorem playTransition_header_stops {f : Fault} (hb : s.bph = .idle) (hp : s.ph = .head) (hl : s.tp < s.cfg.table.length)
    (hr : readHeader s = .error f) : playTransition s = .fault f := by simp [playTransition, hb, hp, playOver, hl, hr]

/-- With parameters left the next one is read and its sink begun. -/
theorem playTransition_parameter {t : State} (hb : s.bph = .idle) (hp : s.ph = .param) (hn : s.rem ≠ 0#8)
    (hr : readParameter s = .ok t) : playTransition s = .next (beginSink (.parameter t.byte) t) := by
  simp [playTransition, hb, hp, hn, hr]

theorem playTransition_parameter_stops {f : Fault} (hb : s.bph = .idle) (hp : s.ph = .param) (hn : s.rem ≠ 0#8)
    (hr : readParameter s = .error f) : playTransition s = .fault f := by simp [playTransition, hb, hp, hn, hr]

end

/-- Settles O41: each clause is one transition; a header or a parameter is read, then its sink begun on the handle there is. -/
theorem playbackTransitions : Obligations.PlaybackTransitions := by
  intro s x y ho
  rw [exec_step4 ho]
  refine ⟨fun hb hp hl => playTransition_over hb hp hl, fun hb hp ht hl => ?header, fun hb hp hn hx => ?parameter,
    fun hb hr => playTransition_dataWrite hb hr, fun hb hr => playTransition_return hb hr, fun hb hr => playTransition_poll hb hr⟩
  case header =>
    have hlt : s.tp < s.cfg.table.length := (List.getElem?_eq_some_iff.1 ht).1
    rw [playTransition_header hb hp hlt (readHeader_inside ht hl)]
    exact ⟨fun ch hh => by rw [beginSink_some (s := headerRead x y s) hh]; rfl,
      fun hh => by rw [beginSink_none (s := headerRead x y s) hh hb]; rfl⟩
  case parameter =>
    have hlast : s.rem - 1#8 = 0#8 ↔ s.rem = 1#8 := sub_eq_zero
    simp only [playTransition_parameter hb hp hn (readParameter_inside hx), ← hlast]
    exact ⟨fun ch hh => by rw [beginSink_some (s := parameterRead x s) hh]; rfl,
      fun hh => by rw [beginSink_none (s := parameterRead x s) hh hb]; rfl⟩

/-- Settles O42: a table read past the end is the fault or a free byte, and the transition around it is the one inside the table. -/
theorem overrunInPlayback : Obligations.OverrunInPlayback := by
  intro s ch x ho hh hb
  rw [exec_step4 ho]
  refine ⟨fun hp ht hl => ⟨fun hs => ?headerStops, fun hs => ?headerGoesOn⟩,
    fun hp hn hl => ⟨fun hs => ?parameterStops, fun hs => ?parameterGoesOn⟩⟩
  case headerStops => exact playTransition_header_stops hb hp (by omega) (readHeader_last_stops ht hl.ge hs)
  case headerGoesOn =>
    rw [playTransition_header hb hp (by omega) (readHeader_last_goesOn ht hl.ge hs),
      beginSink_some (s := headerRead x (Config.freeByte s.drawn) { s with malformed := true, drawn := s.drawn + 1 }) hh]
    rfl
  case parameterStops =>
    exact playTransition_parameter_stops hb hp hn (readParameter_past_stops hl hs)
  case parameterGoesOn =>
    rw [playTransition_parameter hb hp hn (readParameter_past_goesOn hl hs),
      beginSink_some (s := parameterRead (Config.freeByte s.drawn) { s with malformed := true, drawn := s.drawn + 1 }) hh]
    rfl

end Sys2Proof.Machine
end

section
/-! PROOFS. An entry over the orchestrator's sinks on a responsive bus (40_sequencer.md rule R81): one call of a sink and its return, then the
state after the entry's first parameters, which each further one extends. -/

namespace Sys2Proof.Machine

/-- A sink of the orchestrator's binding on a responsive bus, and its return: the line is set, the byte is sent at that level, and `REM` decides
the phase (rules R160, R161 and R89). -/
theorem sinkCall_responsive {s : State} {ch : Nat} (hb : s.bph = .idle) (hh : s.bh = some ch) (hr : s.cfg.busResponsive = true)
    (c : SinkCall) : afterSink (callSink .orchestrator c s) = { s with
      ph := if s.rem = 0#8 then .head else .param
      gpio := { s.gpio with dc := sinkLevel c }
      bus := busSent (sinkByte c) (Config.freeByte (s.drawn + waitDraws s)) s.bus
      tr := s.tr ++ [.dc (sinkLevel c), .tx (sinkLevel c) (sinkByte c)]
      rw := s.rw ++ [.busDat (sinkByte c)]
      drawn := s.drawn + waitDraws s + 1 } := by
  have hsent : callSink .orchestrator c s = runTransfer (sinkByte c) (gpioSet .dc (sinkLevel c) s) := by
    simp [callSink, orchestratorSink, hh, transferOn]
  rw [hsent, runTransfer_responsive (s := gpioSet .dc (sinkLevel c) s) _ hb hr]
  simp [afterSink_returned, hb, gpioSet, emit, busSent, waitDraws]

/-- The state once the tag and the first parameters `ps` of an entry with length byte `len` have been sent (rules R81 and R82). -/
def entrySent (tag len : Byte) (ps : List Byte) (s : State) : State := { s with
  tp := s.tp + 2 + ps.length
  rem := len - BitVec.ofNat 8 ps.length
  ph := if len - BitVec.ofNat 8 ps.length = 0#8 then .head else .param
  byte := entryLast (tag, ps)
  gpio := { s.gpio with dc := !ps.isEmpty }
  bus := busSent (entryLast (tag, ps)) (Config.freeByte (s.drawn + waitDraws s + ps.length)) s.bus
  tr := s.tr ++ entryEvents (tag, ps)
  rw := s.rw ++ entryWrites (tag, ps)
  drawn := s.drawn + waitDraws s + 1 + ps.length }

section
variable {s : State} {ch : Nat} (hb : s.bph = .idle) (hh : s.bh = some ch) (hr : s.cfg.busResponsive = true)
include hb hh hr

/-- The tag is sent first, with the line low. -/
theorem sinkCall_header (tag len : Byte) :
    afterSink (callSink .orchestrator (.command tag) (headerRead tag len s)) = entrySent tag len [] s := by
  rw [sinkCall_responsive (s := headerRead tag len s) hb hh hr]
  simp only [entrySent, List.length_nil, BitVec.sub_zero]
  rfl

/-- Each parameter is sent after those before it, with the line high; the bus is idle by then. -/
theorem sinkCall_parameter (tag len p : Byte) (ps : List Byte) :
    afterSink (callSink .orchestrator (.parameter p) (parameterRead p (entrySent tag len ps s))) =
      entrySent tag len (ps ++ [p]) s := by
  have hrem : len - BitVec.ofNat 8 ps.length - 1#8 = len - BitVec.ofNat 8 (ps.length + 1) := by
    rw [BitVec.sub_sub, BitVec.ofNat_add]
  rw [sinkCall_responsive (s := parameterRead p (entrySent tag len ps s)) hb hh hr]
  simp [entrySent, parameterRead, sinkLevel, sinkByte, entryLast, entryEvents, entryWrites, waitDraws, busSent, hrem, Nat.add_assoc,
    Nat.add_comm, Nat.add_left_comm]

/-- The inner loop goes on from the parameters `ps` already sent through those left. -/
theorem sendParameters_entrySent (tag len : Byte) (ps qs : List Byte) :
    sendParameters qs (entrySent tag len ps s) = entrySent tag len (ps ++ qs) s := by
  induction qs generalizing ps with
  | nil => rw [sendParameters, List.append_nil]
  | cons q qs ih =>
    have hi : (entrySent tag len ps s).bph = .idle := hb
    rw [sendParameters, if_pos hi, sinkCall_parameter hb hh hr, ih, List.append_assoc, List.singleton_append]

/-- An entry sends its tag and then all its parameters. -/
theorem execEntry_responsive (tag len : Byte) (ps : List Byte) : execEntry tag len ps s = .next (entrySent tag len ps s) := by
  rw [execEntry, if_pos hb, sinkCall_header hb hh hr, sendParameters_entrySent hb hh hr, List.nil_append]

end

/-- Settles O35: all parameters are sent, so none is left and the sequencer stands at a head. -/
theorem entrySendsTagThenParameters : Obligations.EntrySendsTagThenParameters := by
  intro s tag len ps ch hlen hb hh hr
  have hrem : len - BitVec.ofNat 8 ps.length = 0#8 := by simp [hlen]
  refine (execEntry_responsive hb hh hr tag len ps).trans ?_
  simp only [entrySent, hrem, if_true]

end Sys2Proof.Machine
end

section
/-! PROOFS. ENTRY against its transitions (40_sequencer.md rules R81 and R89): the four moves that send one byte, then the bytes of an entry that
stands in the table, each from the state after those before it. -/

namespace Sys2Proof.Machine

/-! ### Runs -/

/-- The machine gets from `s` to `t` in `n` steps. -/
def RunsTo (n : Nat) (s t : State) : Prop := core.run n s = .next t

theorem RunsTo.refl (s : State) : RunsTo 0 s s := rfl

theorem RunsTo.head {n : Nat} {s t u : State} (h : step s = .next t) (k : RunsTo n t u) : RunsTo (n + 1) s u := by
  have hc : core.step s = .next t := h
  simp only [RunsTo, Host.Core.run, hc]
  exact k

/-! ### One byte -/

/-- In play the thread's scheduled move is a transition of step 4. -/
theorem step_orch_play {s : State} {more : List Move} (ho : s.ost = .play) (ha : s.agenda = .orch :: more) :
    step s = playTransition { s with agenda := more } := by
  have hf : fetchOrch { s with agenda := more } = .step4CommandPlayback := by simp [fetchOrch, ho, stepOf, ostCode, decodeOst]
  rw [step_scheduled ha, takeMove, fetchMove, hf]
  exact exec_step4 ho

/-- BUS's scheduled move completes a shift in progress. -/
theorem step_bus_busy {s : State} {more : List Move} (hr : s.bus.ready = false) (ha : s.agenda = .bus :: more) :
    step s = .next (completeShift { s with agenda := more }) := by
  rw [step_scheduled ha]
  simp [takeMove, fetchMove, exec, execBusShift, statusReady, hr]

/-- From where a sink has been begun, the data write, the end of the shift and the return are the call of the sink (rules R106 and R89). -/
theorem RunsTo.begunSink {n : Nat} {t u : State} {ch : Nat} {c : SinkCall} {more : List Move} (ho : t.ost = .play) (hb : t.bph = .idle)
    (hh : t.bh = some ch) (hready : t.bus.ready = true) (hr : t.cfg.busResponsive = true) (hc : t.byte = sinkByte c)
    (k : RunsTo n { afterSink (callSink .orchestrator c t) with agenda := more } u) :
    RunsTo (n + 3) { beginSink c t with agenda := .orch :: .bus :: .orch :: more } u := by
  rw [sinkCall_responsive hb hh hr] at k
  rw [beginSink_some hh]
  refine .head ((step_orch_play (by exact ho) rfl).trans (playTransition_dataWrite rfl (by exact hready))) ?_
  refine .head (step_bus_busy rfl rfl) ?_
  refine .head ((step_orch_play (by exact ho) rfl).trans (playTransition_return rfl rfl)) ?_
  simpa [hc, gpioSet, emit, regWrite, storeReg, startShift, completeShift, draw, busSent, waitDraws, hready, hb] using k

/-- The agenda is no matter to a sink that is begun. -/
theorem beginSink_agenda {t : State} {ch : Nat} (hh : t.bh = some ch) (c : SinkCall) (l : List Move) :
    beginSink c { t with agenda := l } = { beginSink c t with agenda := l } := by
  rw [beginSink_some (s := { t with agenda := l }) hh, beginSink_some hh]
  rfl

/-- Where the thread's next transition begins a sink, the four moves of `byteSchedule` are the call of that sink. -/
theorem RunsTo.byte {n : Nat} {s t u : State} {ch : Nat} {c : SinkCall} {more : List Move}
    (hbegin : ∀ l, playTransition { s with agenda := l } = .next (beginSink c { t with agenda := l })) (hs : s.ost = .play)
    (ho : t.ost = .play) (hb : t.bph = .idle) (hh : t.bh = some ch) (hready : t.bus.ready = true)
    (hr : t.cfg.busResponsive = true) (hc : t.byte = sinkByte c)
    (k : RunsTo n { afterSink (callSink .orchestrator c t) with agenda := more } u) :
    RunsTo (n + 4) { s with agenda := byteSchedule ++ more } u := by
  refine .head ((step_orch_play (by exact hs) rfl).trans (hbegin _)) ?_
  rw [beginSink_agenda hh]
  exact k.begunSink ho hb hh hready hr hc

/-! ### The bytes of an entry -/

/-- What is decoded at `TP` stands there: the tag, the length byte, and as many parameters (30_encoding.md rule R61). -/
theorem drop_eq_of_decodeEntry {bytes ps rest : List Byte} {tag len : Byte} (h : decodeEntry bytes = .ok (.entry tag len ps, rest)) :
    bytes = tag :: len :: (ps ++ rest) ∧ ps.length = len.toNat := by
  cases hs : splitEntry bytes with
  | ok p => simp only [decodeEntry, hs] at h; cases h; exact splitEntry_eq_ok_iff.1 hs
  | error e => simp only [decodeEntry, hs] at h; cases h

/-- The byte at an offset, from the bytes that stand from there on. -/
theorem getElem?_of_drop_eq_cons {T bs : List Byte} {o : Nat} {b : Byte} (h : T.drop o = b :: bs) : T[o]? = some b := by
  have h0 : (T.drop o)[0]? = some b := by rw [h, List.getElem?_cons_zero]
  rwa [List.getElem?_drop, Nat.add_zero] at h0

theorem drop_succ_of_drop_eq_cons {T bs : List Byte} {o : Nat} {b : Byte} (h : T.drop o = b :: bs) : T.drop (o + 1) = bs := by
  rw [← List.tail_drop, h, List.tail_cons]

section
variable {s u : State} {ch n : Nat} {more : List Move} (ho : s.ost = .play) (hb : s.bph = .idle) (hh : s.bh = some ch)
  (hr : s.cfg.busResponsive = true)
include ho hb hh hr

/-- Four moves from a head, on an idle bus, send the tag. -/
theorem RunsTo.tag {tag len : Byte} {bs : List Byte} (hready : s.bus.ready = true) (hp : s.ph = .head)
    (ht : s.cfg.table.drop s.tp = tag :: len :: bs) (k : RunsTo n { entrySent tag len [] s with agenda := more } u) :
    RunsTo (n + 4) { s with agenda := byteSchedule ++ more } u := by
  have htag := getElem?_of_drop_eq_cons ht
  have hlen := getElem?_of_drop_eq_cons (drop_succ_of_drop_eq_cons ht)
  have hlt : s.tp < s.cfg.table.length := (List.getElem?_eq_some_iff.1 htag).1
  have hbegin (l : List Move) := playTransition_header (s := { s with agenda := l }) hb hp hlt (readHeader_inside htag hlen)
  rw [← sinkCall_header hb hh hr] at k
  exact k.byte (t := headerRead tag len s) hbegin ho ho hb hh hready hr rfl

/-- Four moves send the next parameter. -/
theorem RunsTo.parameter {tag len p : Byte} {ps bs : List Byte} (hlt : ps.length < len.toNat)
    (ht : s.cfg.table.drop (s.tp + 2 + ps.length) = p :: bs)
    (k : RunsTo n { entrySent tag len (ps ++ [p]) s with agenda := more } u) :
    RunsTo (n + 4) { entrySent tag len ps s with agenda := byteSchedule ++ more } u := by
  have hrem : len - BitVec.ofNat 8 ps.length ≠ 0#8 := by
    refine mt sub_eq_zero.1 ?_
    rintro rfl
    exact absurd (Nat.mod_le _ _) (Nat.not_le.2 hlt)
  have hbegin (l : List Move) := playTransition_parameter (s := { entrySent tag len ps s with agenda := l }) hb (if_neg hrem) hrem
    (readParameter_inside (getElem?_of_drop_eq_cons ht))
  rw [← sinkCall_parameter hb hh hr] at k
  exact k.byte (t := parameterRead p (entrySent tag len ps s)) hbegin ho ho hb hh rfl hr rfl

/-- The moves of all parameters that are left. -/
theorem RunsTo.parameters {tag len : Byte} {ps qs rest : List Byte} (hlen : (ps ++ qs).length = len.toNat)
    (ht : s.cfg.table.drop (s.tp + 2 + ps.length) = qs ++ rest)
    (k : RunsTo n { entrySent tag len (ps ++ qs) s with agenda := more } u) :
    RunsTo (n + 4 * qs.length)
      { entrySent tag len ps s with agenda := (List.replicate qs.length byteSchedule).flatten ++ more } u := by
  induction qs generalizing ps with
  | nil => simpa using k
  | cons q qs ih =>
    have hlt : ps.length < len.toNat := by simp at hlen; omega
    have hnext : s.cfg.table.drop (s.tp + 2 + (ps ++ [q]).length) = qs ++ rest := by
      rw [List.length_append, ← Nat.add_assoc]
      exact drop_succ_of_drop_eq_cons ht
    rw [List.append_cons] at hlen k
    rw [List.length_cons, List.replicate_succ, List.flatten_cons, List.append_assoc, Nat.mul_succ, ← Nat.add_assoc]
    exact (ih hlen hnext k).parameter ho hb hh hr hlt ht

end

/-- Settles O43: the bytes of the entry one after the other, and ENTRY's own state after all of them. -/
theorem entryIsItsTransitions : Obligations.EntryIsItsTransitions := by
  intro s t tag len ps rest ch more ho hp hb hh hready hr hd hx
  obtain ⟨ht, hlen⟩ := drop_eq_of_decodeEntry hd
  cases (execEntry_responsive hb hh hr tag len ps).symm.trans hx
  have hps : s.cfg.table.drop (s.tp + 2) = ps ++ rest := drop_succ_of_drop_eq_cons (drop_succ_of_drop_eq_cons ht)
  have hrun := (RunsTo.refl { entrySent tag len ps s with agenda := more }).parameters ho hb hh hr (ps := []) hlen hps
  have hall := hrun.tag ho hb hh hr hready hp ht
  rw [Nat.zero_add, ← List.append_assoc] at hall
  exact hall

end Sys2Proof.Machine
end

section
/-! PROOFS. `play` over recording sinks (40_sequencer.md rules R80, R83 and R85): one entry of the table, then all that `Parse` lists. -/

namespace Sys2Proof.Machine

/-- A recording sink notes the call and returns at once (rule R85). -/
theorem sinkCall_recording {s : State} (hb : s.bph = .idle) (c : SinkCall) :
    afterSink (callSink .recording c s) =
      { s with calls := s.calls ++ [c], ph := if s.rem = 0#8 then .head else .param } :=
  afterSink_returned (s := callSink .recording c s) hb

/-- The inner loop notes the parameters that stand at `TP`, as many as `REM` says, and ends at a head. The premise on `PH` is the one a sink
that has returned leaves. -/
theorem playParameters_recording {ps rest : List Byte} {s : State} (hb : s.bph = .idle)
    (hp : s.ph = if s.rem = 0#8 then .head else .param) (hlen : s.rem.toNat = ps.length) (ht : s.cfg.table.drop s.tp = ps ++ rest) :
    playParameters ps.length .recording s = .next { s with
      tp := s.tp + ps.length, rem := 0#8, ph := .head, byte := ps.getLastD s.byte, calls := s.calls ++ ps.map .parameter } := by
  induction ps generalizing s with
  | nil =>
    have hrem : s.rem = 0#8 := BitVec.eq_of_toNat_eq hlen
    have hhead : s.ph = .head := by rw [hp, if_pos hrem]
    simp [playParameters, ← hrem, ← hhead]
  | cons p ps ih =>
    have hleft : (s.rem - 1#8).toNat = ps.length := by
      rw [List.length_cons] at hlen
      bv_omega
    simp only [List.length_cons, playParameters, if_pos hb, readParameter_inside (getElem?_of_drop_eq_cons ht)]
    rw [sinkCall_recording (s := parameterRead p s) hb, ih (by exact hb) rfl hleft (drop_succ_of_drop_eq_cons ht), List.getLastD_cons]
    simp [parameterRead, Nat.add_assoc, Nat.add_comm]

/-- The state once the entry at `TP` has been noted (rule R83). -/
def entryRecorded (e : Byte × List Byte) (s : State) : State := { s with
  tp := s.tp + (entryBytes e).length, rem := 0#8, ph := .head, byte := entryLast e, calls := s.calls ++ entryCalls e }

/-- An iteration of the outer loop notes the tag and the parameters of the entry at `TP`, and ends at the head after it. -/
theorem playEntry_recording {s : State} {e : Byte × List Byte} {rest : List Byte} (hb : s.bph = .idle) (hlen : e.2.length ≤ 255)
    (ht : s.cfg.table.drop s.tp = entryBytes e ++ rest) : playEntry .recording s = .next (entryRecorded e s) := by
  have hn : (BitVec.ofNat 8 e.2.length).toNat = e.2.length := by simp; omega
  have hlast := drop_succ_of_drop_eq_cons ht
  have hread := readHeader_inside (getElem?_of_drop_eq_cons ht) (getElem?_of_drop_eq_cons hlast)
  simp only [playEntry, hread]
  rw [sinkCall_recording (s := headerRead e.1 _ s) hb, show (headerRead e.1 (BitVec.ofNat 8 e.2.length) s).rem.toNat = _ from hn,
    playParameters_recording (by exact hb) rfl hn (drop_succ_of_drop_eq_cons hlast)]
  simp [headerRead, entryRecorded, entryLast, entryCalls, Nat.add_assoc]

/-- The outer loop, with enough iterations left, notes the calls of every entry that `Parse` finds from `TP` on, and ends at `L`. -/
theorem playEntries_recording {n : Nat} {es : List (Byte × List Byte)} {s : State} (hb : s.bph = .idle) (hp : s.ph = .head)
    (htp : s.tp ≤ s.cfg.tableLen) (hn : s.cfg.tableLen ≤ s.tp + n) (he : parseTable (s.cfg.table.drop s.tp) = some es) :
    ∃ r b, playEntries n .recording s = .next { s with
      tp := s.cfg.tableLen, rem := r, ph := .head, byte := b, calls := s.calls ++ es.flatMap entryCalls } := by
  induction es generalizing n s with
  | nil =>
    have hend : s.tp = s.cfg.tableLen := htp.antisymm (List.drop_eq_nil_iff.1 (parseTable_eq_some_nil_iff.1 he))
    have hstop : playEntries n .recording s = .next s := by
      cases n with
      | zero => rfl
      | succ n => simp [playEntries, playOver, hend]
    exact ⟨s.rem, s.byte, by rw [hstop]; simp [← hend, ← hp]⟩
  | cons e es ih =>
    obtain ⟨rest, ht, hlen, hrest⟩ := parseTable_eq_some_cons_iff.1 he
    have hbytes : s.cfg.tableLen - s.tp = (entryBytes e).length + rest.length := by
      rw [← List.length_append, ← ht, List.length_drop]
    have hnext : s.cfg.table.drop (s.tp + (entryBytes e).length) = rest := by rw [← List.drop_drop, ht, List.drop_left]
    have hpos : 0 < (entryBytes e).length := by rw [length_entryBytes]; omega
    have hover : playOver s = false := decide_eq_false (by omega)
    obtain ⟨n, rfl⟩ : ∃ m, n = m + 1 := ⟨n - 1, by omega⟩
    have hinside : (entryRecorded e s).tp ≤ s.cfg.tableLen := by simp only [entryRecorded]; omega
    have hfuel : s.cfg.tableLen ≤ (entryRecorded e s).tp + n := by simp only [entryRecorded]; omega
    obtain ⟨r, b, hplay⟩ := ih (s := entryRecorded e s) hb rfl hinside hfuel (by rw [← hrest]; exact congrArg parseTable hnext)
    refine ⟨r, b, ?_⟩
    rw [playEntries, if_pos ⟨hb, hover⟩, playEntry_recording hb hlen ht, List.flatMap_cons, ← List.append_assoc]
    exact hplay

/-- A table holds one byte more for each entry than there are calls: its length byte (derived in rule R83 from rule R82). -/
theorem length_entryCalls_add (es : List (Byte × List Byte)) :
    (es.flatMap entryCalls).length + es.length = (es.flatMap entryBytes).length := by
  induction es with
  | nil => rfl
  | cons e es ih =>
    simp only [List.flatMap_cons, List.length_append, length_entryBytes, List.length_cons, entryCalls, List.length_map]
    omega

/-- Settles O37: the outer loop from the start of the table, whose bytes are those of its entries. -/
theorem playCallsExactlyTheParsedEntries : Obligations.PlayCallsExactlyTheParsedEntries := by
  intro s es he hb
  have hbytes : s.cfg.table = es.flatMap entryBytes := ((parseInvertsTheByteImage _ es).1 he).1
  have hcount : (es.flatMap entryCalls).length + es.length = s.cfg.tableLen := by
    rw [length_entryCalls_add, Config.tableLen, hbytes]
  obtain ⟨r, b, hplay⟩ := playEntries_recording (s := startPlay s) hb rfl (Nat.zero_le _) (Nat.le_add_left _ _) he
  exact ⟨_, (if_pos hb).trans hplay, rfl, hcount, rfl, rfl, rfl⟩

end Sys2Proof.Machine
end

section
/-! PROOFS. The Bus Channel Driver on the selected channel (41_bus_channel.md): selection, `configure`, `set_clock_rate` with its read-back, the
byte transfer on a responsive bus, and the shifter's own steps. -/

namespace Sys2Proof.Machine

/-! ### Selection and the handle `none` -/

/-- Settles O18: both selections are the range check alone, and only the returned value is written. -/
theorem selectionIsARangeCheck : Obligations.SelectionIsARangeCheck := fun _ _ => ⟨rfl, rfl⟩

/-- Settles O19: on `none` the guard `onBus` and the two reads return before anything is done. -/
theorem busOperationsOnNoneAreNoOps : Obligations.BusOperationsOnNoneAreNoOps := fun _ _ _ _ => ⟨rfl, rfl, rfl, rfl, rfl⟩

/-! ### `configure` -/

/-- While the bus is idle a write of `BUS.CON` only stores and is recorded, whatever is written (10_state.md rule R21). -/
theorem regWrite_busCon_of_ready {s : State} (hr : s.bus.ready = true) (v : Byte) :
    regWrite (.busCon v) s = { s with bus := { s.bus with con := v }, rw := s.rw ++ [.busCon v] } := by
  by_cases hv : v = 0#8
  · simp [regWrite, storeReg, storeBusCon, rearmShift, hv, ← hr]
  · simp [regWrite, storeReg, storeBusCon, hv]

/-- The zero leaves the bus idle, so that a mode of zero has nothing more to re-arm (rule R102). -/
theorem regWrites_configureWrites (m : Byte) (s : State) : regWrites (configureWrites m) s = { s with
    bus := { s.bus with con := m, ready := true }, rw := s.rw ++ [.busCon 0#8, .busCon m] } := by
  have hready : (regWrite (.busCon 0#8) s).bus.ready = true := rfl
  simp only [configureWrites, regWrites, regWrite_busCon_of_ready hready m]
  simp [regWrite, storeReg, storeBusCon, rearmShift]

/-- Settles O20: on the selected channel the two writes, on `none` none of them; the example's fields are those of `0x18`. -/
theorem configureWritesZeroThenMode : Obligations.ConfigureWritesZeroThenMode :=
  ⟨fun s _ m hch => (onBus_selected hch).trans (congrArg _ (regWrites_configureWrites m s)), fun _ _ => rfl, by decide⟩

/-! ### `set_clock_rate` and its read-back -/

/-- On a valid handle a rate in range is one write of the prescaler (rule R103). -/
theorem setClockRateOn_of_prescaler {s : State} {hz : Nat} {p : Byte} (ch : Nat) (hp : prescaler s.cfg.pclk hz = some p) :
    setClockRateOn (some ch) hz s = .next (regWrite (.busPre p) s) := by simp only [setClockRateOn, hp]

/-- On a valid handle a rate out of range is refused (rule R104). -/
theorem setClockRateOn_out_of_range {s : State} {hz : Nat} (ch : Nat)
    (hq : ¬(1 ≤ s.cfg.pclk / 2 / hz ∧ s.cfg.pclk / 2 / hz ≤ 256)) : setClockRateOn (some ch) hz s = .refused .prescalerRange := by
  simp only [setClockRateOn, prescaler_out_of_range hq]

/-- On the selected channel, a `set_clock_rate` that completes had a quotient in range and wrote it less one. -/
theorem exec_setClockRate_next {s t : State} {ch hz : Nat} (hch : selectBus s.cfg s.cfg.busCh = some ch)
    (e : exec (.setClockRate (some ch) hz) s = .next t) : 1 ≤ s.cfg.pclk / 2 / hz ∧ s.cfg.pclk / 2 / hz ≤ 256 ∧
      t = regWrite (.busPre (BitVec.ofNat 8 (s.cfg.pclk / 2 / hz - 1))) s := by
  obtain ⟨hnone, -⟩ | ⟨p, -, hp, rfl⟩ := setClockRateOn_next ((onBus_selected hch).symm.trans e)
  · cases hnone
  · obtain ⟨hlow, hhigh, rfl⟩ := prescaler_some hp
    exact ⟨hlow, hhigh, rfl⟩

/-- Settles O21: in range one write of the quotient less one; its second form is division by a product. -/
theorem setClockRateWritesTheQuotientLessOne : Obligations.SetClockRateWritesTheQuotientLessOne := by
  refine ⟨?inRange, fun _ _ => rfl, by decide⟩
  case inRange =>
    intro s ch hz hch _ hlow hhigh
    exact ⟨(onBus_selected hch).trans (setClockRateOn_of_prescaler ch (prescaler_of_range hlow hhigh)), Nat.div_div_eq_div_mul _ _ _⟩

/-- Settles O22: a rate of 0 or above half the peripheral clock has quotient 0; in range the quotient's own bound is the clock's. -/
theorem prescalerRangeAndRate : Obligations.PrescalerRangeAndRate := by
  intro s ch hz hch
  refine ⟨?refused, ?inRange⟩
  case refused =>
    intro hbad
    refine (onBus_selected hch).trans (setClockRateOn_out_of_range ch fun ⟨hlow, hhigh⟩ => ?_)
    obtain rfl | hfast | hslow := hbad
    · rw [Nat.div_zero] at hlow; omega
    · rw [Nat.div_eq_of_lt hfast] at hlow; omega
    · omega
  case inRange =>
    intro t e
    obtain ⟨hlow, hhigh, rfl⟩ := exec_setClockRate_next hch e
    have hpre : (BitVec.ofNat 8 (s.cfg.pclk / 2 / hz - 1)).toNat + 1 = s.cfg.pclk / 2 / hz := by
      rw [BitVec.toNat_ofNat]; omega
    have hbound : hz * (s.cfg.pclk / 2 / hz) ≤ s.cfg.pclk / 2 := Nat.mul_div_le _ _
    rw [regWrite_busPre_bus, hpre, Nat.mul_left_comm]
    exact ⟨rfl, by omega⟩

/-- On the selected channel the read-back returns the prescaler register (rule R112). -/
theorem exec_readPrescaler_selected {s : State} {ch : Nat} (hch : selectBus s.cfg s.cfg.busCh = some ch) :
    exec (.readPrescaler (some ch)) s = .next { s with result := .byte s.bus.pre } := onBus_selected hch

/-- Settles O23: the write leaves the channel selected, so that the read-back returns what it stored. -/
theorem prescalerReadsBack : Obligations.PrescalerReadsBack := by
  intro s ch hz hch
  refine ⟨exec_readPrescaler_selected hch, fun t e => ?_⟩
  obtain ⟨-, -, rfl⟩ := exec_setClockRate_next hch e
  exact ⟨_, exec_readPrescaler_selected hch, rfl⟩

/-! ### The byte transfer on a responsive bus -/

/-- Settles O24: both operations run the byte transfer, which returns with the byte received in `BUS.DAT`. -/
theorem byteTransferSendsAndReturns : Obligations.ByteTransferSendsAndReturns := by
  intro s ch b hch hi hr
  rw [exec_writeOnly_selected hch, exec_transferByte_selected hch, runTransfer_responsive b hi hr]
  exact ⟨rfl, congrArg _ (readReceived_returned hi)⟩

/-! ### The shifter -/

/-- Settles O27: `start` and `complete` look at ready first, `re-arm` does not. -/
theorem shifterStartsCompletesAndRearms : Obligations.ShifterStartsCompletesAndRearms := by
  intro s b
  refine ⟨?startReady, ?startBusy, ?completeBusy, ?completeReady, rfl⟩
  case startReady => intro hr; exact if_pos hr
  case startBusy => intro hr; exact if_neg (by simp [statusReady, hr])
  case completeBusy => intro hr; exact congrArg _ (if_neg (by simp [statusReady, hr]))
  case completeReady => intro hr; exact congrArg _ (if_pos hr)

end Sys2Proof.Machine
end

section
/-! PROOFS. The refusals of bring-up (43_orchestrator.md rules R151 to R168): an orchestrator step out of order, a `SUB` the step does not have,
and the operands and channels that steps 2, 7 and 8 refuse. -/

namespace Sys2Proof.Machine

/-! ### Out of order and out of range -/

/-- A step that `OST` does not name is refused (rule R151). -/
theorem atStep_other {o : Ost} {s : State} (ho : s.ost ≠ o) (r : Result) : atStep o s r = .refused .stepOutOfOrder := if_neg ho

/-- Each step but IDLE's, which is none, is guarded by its own `OST`. -/
theorem exec_stepOf_outOfOrder {o : Ost} {s : State} (hi : o ≠ .idle) (ho : s.ost ≠ o) :
    exec (stepOf o) s = .refused .stepOutOfOrder := by
  cases o
  case idle => exact absurd rfl hi
  all_goals exact atStep_other ho _

/-- Step 1 has two actions (rule R154). -/
theorem execStep1PinConfig_subOutOfRange {s : State} (ho : s.ost = .pincfg) (hs : 1 < s.sub.toNat) :
    execStep1PinConfig s = .refused .subOutOfRange := by
  rw [execStep1PinConfig, atStep_self ho]
  split
  · omega
  · omega
  · rfl

/-- Step 2 has two actions (rule R155). -/
theorem execStep2BusBringup_subOutOfRange {s : State} (ho : s.ost = .busup) (hs : 1 < s.sub.toNat) :
    execStep2BusBringup s = .refused .subOutOfRange := by
  rw [execStep2BusBringup, atStep_self ho]
  split
  · omega
  · omega
  · rfl

/-- Step 7 has three actions (rule R165). -/
theorem execStep7SessionSetup_subOutOfRange {s : State} (ho : s.ost = .xsetup) (hs : 2 < s.sub.toNat) :
    execStep7SessionSetup s = .refused .subOutOfRange := by
  rw [execStep7SessionSetup, atStep_self ho]
  split
  · omega
  · omega
  · omega
  · rfl

/-! ### The last actions of steps 2, 7 and 8 -/

/-- The second action of step 2 sets the clock rate (rule R155). -/
theorem execStep2BusBringup_clockRate {s : State} (ho : s.ost = .busup) (hs : s.sub = 1#2) :
    execStep2BusBringup s = andThen (setClockRateOn s.bh s.cfg.targetHz s) fun t => .next (enterStep .resetPulse t) := by
  rw [execStep2BusBringup, atStep_self ho, hs]; rfl

/-- The third action of step 7 sets the control word (rule R165). -/
theorem execStep7SessionSetup_control {s : State} (ho : s.ost = .xsetup) (hs : s.sub = 2#2) :
    execStep7SessionSetup s = andThen (setupControl s) fun t => .next (enterStep .trigger t) := by
  rw [execStep7SessionSetup, atStep_self ho, hs]; rfl

/-- On a valid transfer handle a count that does not fit is refused (42_transfer_engine.md rule R125). -/
theorem setupControl_out_of_range {s : State} {xch : Nat} (hx : s.xh = some xch) (hc : ¬(1 ≤ s.cfg.count ∧ s.cfg.count < 2 ^ 20)) :
    setupControl s = .refused .countRange := by simp only [setupControl, hx, ctlWord_out_of_range hc]

/-- On a valid transfer handle with no bus step 8 is refused (rule R174). -/
theorem execStep8Trigger_withoutBus {s : State} (ho : s.ost = .trigger) (hx : s.xh.isSome) (hb : s.bh = none) :
    execStep8Trigger s = .refused .streamWithoutBus := (atStep_self ho).trans (if_pos ⟨hx, hb⟩)

/-- With a bus step 8 triggers the channel (rule R168). -/
theorem execStep8Trigger_withBus {s : State} (ho : s.ost = .trigger) (hb : s.bh ≠ none) :
    execStep8Trigger s = andThen (triggerOn s.xh s) fun t => .next (enterStep .handoff t) :=
  (atStep_self ho).trans (if_neg fun h => hb h.2)

/-- A channel already armed is not triggered again (U8). -/
theorem triggerOn_armed {s : State} (xch : Nat) (ha : s.xfer.trigOn = true) : triggerOn (some xch) s = .refused .triggerArmed :=
  if_pos ha

/-- Settles O14: the refusal of each operation, under the step that runs it. -/
theorem bringUpRefusals : Obligations.BringUpRefusals := by
  intro s ch xch
  refine ⟨?clockRate, ?count, ?noBus, ?armed, execStep1PinConfig_subOutOfRange, execStep2BusBringup_subOutOfRange,
    execStep7SessionSetup_subOutOfRange, fun _ => exec_stepOf_outOfOrder⟩
  case clockRate =>
    intro ho hs hb hq
    refine (execStep2BusBringup_clockRate ho hs).trans ?_
    rw [hb, setClockRateOn_out_of_range ch (by omega)]; rfl
  case count =>
    intro ho hs hx hc
    refine (execStep7SessionSetup_control ho hs).trans ?_
    rw [setupControl_out_of_range hx (by simp only [Config.count]; omega)]; rfl
  case noBus =>
    intro ho hx hb
    exact execStep8Trigger_withoutBus ho (by simp [hx]) hb
  case armed =>
    intro ho hx hb ha
    refine (execStep8Trigger_withBus ho (by simp [hb])).trans ?_
    rw [hx, triggerOn_armed xch ha]; rfl

end Sys2Proof.Machine
end


section
/-! PROOFS. The Transfer Engine Driver on its handle (42_transfer_engine.md rules R121 to R128): the writes of each operation, and the trigger. -/

namespace Sys2Proof.Machine

/-! ### `set_source`, `set_destination` and `set_control` -/

/-- Settles O28: on `none` the guard `onXfer` returns before anything is done. -/
theorem transferOperationsOnNoneAreNoOps : Obligations.TransferOperationsOnNoneAreNoOps := fun _ _ _ _ => ⟨rfl, rfl, rfl, rfl⟩

/-- The two writes of `set_source` in one (rule R122). -/
theorem regWrites_sourceWrites (a : Addr) (c : Word) (s : State) : regWrites (sourceWrites a c) s = { s with
    xfer := { s.xfer with src := a, srcc := c }, rw := s.rw ++ [.xferSrc a, .xferSrcc c] } := by
  simp [sourceWrites, regWrites, regWrite, storeReg]

/-- The two writes of `set_destination` in one (rule R123). -/
theorem regWrites_destinationWrites (a : Addr) (c : Word) (s : State) : regWrites (destinationWrites a c) s = { s with
    xfer := { s.xfer with dst := a, dstc := c }, rw := s.rw ++ [.xferDst a, .xferDstc c] } := by
  simp [destinationWrites, regWrites, regWrite, storeReg]

/-- Settles O29: on the selected channel each operation is its two writes; the example's fields are those of `0x3` and `0x0`. -/
theorem sourceAndDestinationTakeTwoWrites : Obligations.SourceAndDestinationTakeTwoWrites := by
  refine ⟨fun s ch a c hch => ⟨?source, ?destination⟩, by decide⟩
  case source => exact (onXfer_selected hch).trans (congrArg _ (regWrites_sourceWrites a c s))
  case destination => exact (onXfer_selected hch).trans (congrArg _ (regWrites_destinationWrites a c s))

/-- Settles O30: on the selected channel the operation is the write of `XFER.CON`, which only stores. -/
theorem setControlIsOneWrite : Obligations.SetControlIsOneWrite :=
  ⟨fun _ _ _ hch => onXfer_selected hch, fun _ _ => rfl, by decide⟩

/-! ### `trigger` -/

/-- A channel that is not armed takes the trigger word of its control word (rule R128). -/
theorem triggerOn_notArmed {s : State} (ch : Nat) (ha : s.xfer.trigOn = false) :
    triggerOn (some ch) s = .next (regWrite (.xferTrig (triggerWord s.xfer.con)) s) := if_neg (by simp [ha])

/-- The trigger word arms the channel and loads the working registers (rule R127). -/
theorem regWrite_triggerWord {s : State} (ha : s.xfer.trigOn = false) : regWrite (.xferTrig (triggerWord s.xfer.con)) s = { s with
    xfer := { s.xfer with
      trigOn := true, trigSwreq := !ctlHardware s.xfer.con, csrc := s.xfer.src, cdst := s.xfer.dst, ccnt := ctlCount s.xfer.con }
    rw := s.rw ++ [.xferTrig (triggerWord s.xfer.con)] } := by
  simp only [regWrite, storeReg, storeTrig_triggerWord ha]

/-- The whole of `trigger` on the selected channel, not armed before. -/
theorem exec_trigger_notArmed {s : State} {ch : Nat} (hch : selectXfer s.cfg.xferCh = some ch) (ha : s.xfer.trigOn = false) :
    exec (.trigger (some ch)) s = .next { s with
      xfer := { s.xfer with
        trigOn := true, trigSwreq := !ctlHardware s.xfer.con, csrc := s.xfer.src, cdst := s.xfer.dst, ccnt := ctlCount s.xfer.con }
      rw := s.rw ++ [.xferTrig (triggerWord s.xfer.con)] } :=
  (onXfer_selected hch).trans ((triggerOn_notArmed ch ha).trans (congrArg _ (regWrite_triggerWord ha)))

/-- Settles O31: the trigger source of the control word fixes the word and the request; an armed channel is refused first. -/
theorem triggerLoadsTheWorkingRegisters : Obligations.TriggerLoadsTheWorkingRegisters := by
  intro s ch hch
  refine ⟨?hardware, ?software, ?armed⟩
  case hardware =>
    intro ha hw
    rw [exec_trigger_notArmed hch ha, triggerWord, hw]; rfl
  case software =>
    intro ha hw
    rw [exec_trigger_notArmed hch ha, triggerWord, hw]; rfl
  case armed =>
    intro ha
    exact (onXfer_selected hch).trans (triggerOn_armed ch ha)

end Sys2Proof.Machine
end

section
/-! PROOFS. XFER's step (42_transfer_engine.md rules R129 to R133), said once for each branch: where it does nothing, what it refuses and on
which ground, and the unit that it moves. -/

namespace Sys2Proof.Machine

variable {s : State}

/-! ### The session -/

/-- The selected Bus Channel is a supported one exactly where it has a handle (41_bus_channel.md rule R100). -/
theorem selectBus_eq_none_iff {c : Config} {ch : Int} : selectBus c ch = none ↔ ¬(0 ≤ ch ∧ ch < c.nBus) := by
  unfold selectBus
  split <;> simp [*]

/-- XFER's enabling condition, condition by condition (rule R129). -/
theorem xferEnabled_iff : xferEnabled s = true ↔ s.xfer.trigOn = true ∧ ctlHardware s.xfer.con = true ∧
    ctlReqsrc s.xfer.con = s.cfg.reqsrcBus ∧ s.bus.ready = true := by
  simp [xferEnabled, busReq, and_assoc]

/-- The source stands at the last address with units left (U10). -/
theorem sourceAtEnd_iff {x : XferBlock} :
    sourceAtEnd x = true ↔ incFixed x.srcc = false ∧ x.csrc = 0xFFFFFFFF#32 ∧ x.ccnt ≠ 1#20 := by
  simp [sourceAtEnd, and_assoc]

/-- A channel that is not armed has no step (rule R129). -/
theorem execXferUnit_notArmed (ha : s.xfer.trigOn = false) : execXferUnit s = .next s := if_pos ha

/-- With no supported bus an armed channel has no requester (U22). -/
theorem execXferUnit_withoutBus (ha : s.xfer.trigOn = true) (hn : s.xfer.trigSwreq = false)
    (hb : ¬(0 ≤ s.cfg.busCh ∧ s.cfg.busCh < s.cfg.nBus)) : execXferUnit s = .refused .streamWithoutBus := by
  simp [execXferUnit, ha, hn, selectBus_eq_none_iff.2 hb]

/-- Demand mode is refused (rule R133). -/
theorem execXferUnit_demandMode (ha : s.xfer.trigOn = true) (hn : s.xfer.trigSwreq = false)
    (hb : 0 ≤ s.cfg.busCh ∧ s.cfg.busCh < s.cfg.nBus) (hm : ctlHandshake s.xfer.con = false) :
    execXferUnit s = .refused .demandMode := by
  have hsel : ¬selectBus s.cfg s.cfg.busCh = none := fun h => selectBus_eq_none_iff.1 h hb
  simp [execXferUnit, ha, hn, hsel, hm]

/-- An armed handshake session on a supported bus takes the requested unit. -/
theorem execXferUnit_requested (ha : s.xfer.trigOn = true) (hn : s.xfer.trigSwreq = false)
    (hb : 0 ≤ s.cfg.busCh ∧ s.cfg.busCh < s.cfg.nBus) (hm : ctlHandshake s.xfer.con = true) :
    execXferUnit s = execRequestedUnit s := by
  have hsel : ¬selectBus s.cfg s.cfg.busCh = none := fun h => selectBus_eq_none_iff.1 h hb
  simp [execXferUnit, ha, hn, hsel, hm]

/-- Without its enabling condition XFER waits. -/
theorem execRequestedUnit_waits (he : ¬xferEnabled s = true) : execRequestedUnit s = .next s := if_neg he

/-- An enabled unit that has a ground of refusal is refused on it. -/
theorem execRequestedUnit_refused {r : Refusal} (he : xferEnabled s = true) (hu : unitRefusal s = some r) :
    execRequestedUnit s = .refused r := by simp only [execRequestedUnit, he, hu, if_true]

/-- An enabled unit that has none moves. -/
theorem execRequestedUnit_moves (he : xferEnabled s = true) (hu : unitRefusal s = none) :
    execRequestedUnit s = .next (moveUnit s) := by simp only [execRequestedUnit, he, hu, if_true]

/-! ### The grounds of refusal of an enabled unit, in their order -/

/-- The unit size (rule R126). -/
theorem unitRefusal_unitSize (hz : ctlUsize s.xfer.con ≠ 0#2) : unitRefusal s = some .unitSize := if_pos hz

section
variable (hz : ctlUsize s.xfer.con = 0#2)
include hz

/-- A count of zero (rule R125). -/
theorem unitRefusal_countRange (hc : s.xfer.ccnt = 0#20) : unitRefusal s = some .countRange := by simp [unitRefusal, hz, hc]

variable (hc : s.xfer.ccnt ≠ 0#20)
include hc

/-- A source that is a peripheral register (log entry 20). -/
theorem unitRefusal_sourceNotMemory (hs : locPeripheral s.xfer.srcc = true) : unitRefusal s = some .sourceNotMemory := by
  simp [unitRefusal, hz, hc, hs]

variable (hs : locPeripheral s.xfer.srcc = false)
include hs

/-- A destination that is not the selected bus's data register (log entry 20). -/
theorem unitRefusal_destinationNotBusData (hd : locPeripheral s.xfer.dstc = false ∨ s.xfer.cdst ≠ s.cfg.busDatAddr) :
    unitRefusal s = some .destinationNotBusData := by simp [unitRefusal, hz, hc, hs, hd]

variable (hd : locPeripheral s.xfer.dstc = true) (ha : s.xfer.cdst = s.cfg.busDatAddr)
include hd ha

/-- A source address that would pass the last one (U10). -/
theorem unitRefusal_sourceWraps (he : sourceAtEnd s.xfer = true) : unitRefusal s = some .sourceWraps := by
  simp [unitRefusal, hz, hc, hs, hd, ha, he]

/-- Past them all there is no ground. -/
theorem unitRefusal_none (he : sourceAtEnd s.xfer = false) : unitRefusal s = none := by
  simp [unitRefusal, hz, hc, hs, hd, ha, he]

end

/-- Settles O34: the decisions of `execXferUnit`, then of an enabled unit's grounds, each under the answers of those before it. -/
theorem unitWaitsOrIsRefused : Obligations.UnitWaitsOrIsRefused := by
  intro s
  refine ⟨execXferUnit_notArmed, execXferUnit_softwareRequest, fun ha hn => ⟨execXferUnit_withoutBus ha hn, fun hlow hhigh =>
    ⟨execXferUnit_demandMode ha hn ⟨hlow, hhigh⟩, fun hm => ?handshake⟩⟩⟩
  have hreq : exec .xferUnit s = execRequestedUnit s := execXferUnit_requested ha hn ⟨hlow, hhigh⟩ hm
  rw [hreq]
  refine ⟨?waits, fun hr hw hq => ?enabled⟩
  case waits =>
    intro hno
    refine execRequestedUnit_waits fun he => ?_
    obtain ⟨-, hw, hq, hr⟩ := xferEnabled_iff.1 he
    rcases hno with hno | hno | hno
    · simp [hr] at hno
    · exact absurd hw (Bool.eq_false_iff.1 hno)
    · exact hno hq
  case enabled =>
    have refusedOn {r : Refusal} : unitRefusal s = some r → execRequestedUnit s = .refused r :=
      execRequestedUnit_refused (xferEnabled_iff.2 ⟨ha, hw, hq, hr⟩)
    refine ⟨fun hz => refusedOn (unitRefusal_unitSize hz), fun hz hc => refusedOn (unitRefusal_countRange hz hc), fun hz hc =>
      ⟨fun hs => refusedOn (unitRefusal_sourceNotMemory hz hc hs),
        fun hs hd => refusedOn (unitRefusal_destinationNotBusData hz hc hs hd), fun hs hd hda hinc hlast hleft => ?wraps⟩⟩
    exact refusedOn (unitRefusal_sourceWraps hz hc hs hd hda (sourceAtEnd_iff.2 ⟨hinc, hlast, hleft⟩))

/-! ### The unit that moves -/

/-- A session that is complete has its unit moved (rule R129). -/
theorem exec_xferUnit_unitReady (h : UnitReady s) : exec .xferUnit s = .next (moveUnit s) := by
  obtain ⟨hon, hsw⟩ := h.armed
  obtain ⟨hm, -, -, hz⟩ := h.session
  obtain ⟨hs, hd, ha⟩ := h.topology
  calc exec .xferUnit s = execRequestedUnit s := execXferUnit_requested hon hsw h.busThere hm
    _ = .next (moveUnit s) :=
      execRequestedUnit_moves (xferEnabled_of_unitReady h) (unitRefusal_none hz h.unitsLeft hs hd ha h.insideMemory)

/-- Only the count of 1 counts down to the end of the pass. -/
theorem countUnit_ccnt_eq_zero_iff {x : XferBlock} : (countUnit x).ccnt = 0#20 ↔ x.ccnt = 1#20 := sub_eq_zero

/-- Inside a pass nothing is done after the count (rule R129). -/
theorem endOfPass_countUnit {x : XferBlock} (h : x.ccnt ≠ 1#20) : endOfPass (countUnit x) = countUnit x :=
  if_neg (mt countUnit_ccnt_eq_zero_iff.1 h)

/-- The last unit of a pass reloads the working registers (rule R131). -/
theorem endOfPass_reload {x : XferBlock} (h : x.ccnt = 1#20) (hr : ctlNoReload x.con = false) :
    endOfPass (countUnit x) = loadWorking (countUnit x) :=
  (if_pos (countUnit_ccnt_eq_zero_iff.2 h)).trans (if_neg (Bool.eq_false_iff.1 hr))

/-- The last unit of a pass without reload disables the channel (rule R131). -/
theorem endOfPass_disable {x : XferBlock} (h : x.ccnt = 1#20) (hr : ctlNoReload x.con = true) :
    endOfPass (countUnit x) = { countUnit x with ccnt := 0#20, trigOn := false } := by
  have hz : (countUnit x).ccnt = 0#20 := countUnit_ccnt_eq_zero_iff.2 h
  have hr' : ctlNoReload (countUnit x).con = true := hr
  rw [endOfPass, if_pos hz, if_pos hr', ← hz]

/-- Settles O32: before the last unit the end of the pass adds nothing to the count. -/
theorem unitMovesOneByte : Obligations.UnitMovesOneByte := by
  intro s h hmore
  refine ⟨_, rfl, ?_⟩
  rw [exec_xferUnit_unitReady h, moveUnit, endOfPass_countUnit hmore]
  rfl

/-- Settles O33: at the last unit the count is zero, and the reload bit decides. -/
theorem lastUnitReloadsOrDisables : Obligations.LastUnitReloadsOrDisables := by
  intro s h hlast
  rw [exec_xferUnit_unitReady h, moveUnit]
  refine ⟨_, rfl, ?reload, ?disable⟩
  case reload => intro hr; rw [endOfPass_reload hlast hr]; rfl
  case disable => intro hr; rw [endOfPass_disable hlast hr]; rfl

end Sys2Proof.Machine
end

section
/-! PROOFS. The stream within one pass (42_transfer_engine.md rule R134): XFER's unit and the end of its shift, two unscheduled steps a byte,
keep the session, so that the bytes follow each other in address order. -/

namespace Sys2Proof.Machine

/-- A session that streams memory in address order with the thread at rest: what one byte of the stream leaves as it found it, until the
last unit of the pass. -/
structure StreamingPass (s : State) : Prop where
  /-- After hand-off, with no WRITE_BYTE in progress and no move scheduled. -/
  handedOff : s.ost = .handoff ∧ s.bph = .idle ∧ s.agenda = []
  /-- Every shift ends (rule R109). -/
  responsive : s.cfg.busResponsive = true
  /-- The session is complete. -/
  unitReady : UnitReady s
  /-- The source address rises, the destination address stays. -/
  rising : incFixed s.xfer.srcc = false ∧ incFixed s.xfer.dstc = true
  /-- The pass ends inside memory (U10). -/
  insideMemory : s.xfer.csrc.toNat + s.xfer.ccnt.toNat ≤ 2 ^ 32

/-- The state once a unit has moved and its shift is over. -/
def unitSent (s : State) : State := completeShift (moveUnit s)

/-- The channel `k` units further into its pass. -/
def unitsCounted (k : Nat) (x : XferBlock) : XferBlock :=
  { x with csrc := x.csrc + BitVec.ofNat 32 k, ccnt := x.ccnt - BitVec.ofNat 20 k }

/-- The next `k` bytes of the stream as the panel sees them. -/
def streamEvents (k : Nat) (s : State) : List Event :=
  (List.range k).map fun n => .tx s.gpio.dc (memRead s.mem (s.xfer.csrc + BitVec.ofNat 32 n))

@[simp] theorem unitsCounted_zero (x : XferBlock) : unitsCounted 0 x = x := by simp [unitsCounted]

/-- Counting goes on from a unit that has been counted. -/
theorem unitsCounted_succ (k : Nat) (x : XferBlock) : unitsCounted (k + 1) x = unitsCounted k (unitsCounted 1 x) := by
  simp only [unitsCounted, BitVec.ofNat_add, XferBlock.mk.injEq, true_and]
  exact ⟨by ring, by ring⟩

variable {s : State}

/-- With a rising source and a fixed destination a unit counts as one (rule R129). -/
theorem unitSent_xfer (h : StreamingPass s) (hmore : s.xfer.ccnt ≠ 1#20) : (unitSent s).xfer = unitsCounted 1 s.xfer := by
  obtain ⟨hsrc, hdst⟩ := h.rising
  change endOfPass (countUnit s.xfer) = _
  rw [endOfPass_countUnit hmore]
  simp [countUnit, stepAddr, hsrc, hdst, unitsCounted]

/-- The byte at the source is the first of the stream, and the rest goes on from the next address. -/
theorem streamEvents_succ (k : Nat) (h : StreamingPass s) (hmore : s.xfer.ccnt ≠ 1#20) :
    streamEvents (k + 1) s = .tx s.gpio.dc (memRead s.mem s.xfer.csrc) :: streamEvents k (unitSent s) := by
  have hgpio : (unitSent s).gpio = s.gpio := rfl
  have hmem : (unitSent s).mem = s.mem := rfl
  have haddr (n : Nat) : s.xfer.csrc + BitVec.ofNat 32 (n + 1) = (unitSent s).xfer.csrc + BitVec.ofNat 32 n := by
    rw [unitSent_xfer h hmore]
    exact congrArg XferBlock.csrc (unitsCounted_succ n s.xfer)
  simp [streamEvents, List.range_succ_eq_map, Function.comp_def, haddr, hgpio, hmem]

/-- Two unscheduled steps: XFER moves the unit, BUS completes its shift (log entry 1). -/
theorem RunsTo.unit {n : Nat} {u : State} (h : StreamingPass s) (hmore : s.xfer.ccnt ≠ 1#20) (k : RunsTo n (unitSent s) u) :
    RunsTo (n + 2) s u := by
  obtain ⟨ho, hb, ha⟩ := h.handedOff
  have ht : threadActive s = false := threadActive_false (.inr ho) hb
  have hunit : step s = .next (moveUnit s) := by
    rw [step_unscheduled ha, fetchUnscheduled_unitReady ht h.unitReady, exec_xferUnit_unitReady h.unitReady]
  have hx : (moveUnit s).xfer = unitsCounted 1 s.xfer := unitSent_xfer h hmore
  have hsw : softwareRequest (moveUnit s) = false := by simp [softwareRequest, hx, unitsCounted, h.unitReady.armed.2]
  have hbus : step (moveUnit s) = .next (unitSent s) := by
    rw [step_unscheduled (s := moveUnit s) ha, fetchUnscheduled_bus (s := moveUnit s) ht hsw rfl h.responsive]
    rfl
  exact (k.head hbus).head hunit

/-- Addresses that end inside memory do not stand at the last one with units left. -/
theorem sourceAtEnd_of_inside {x : XferBlock} (h : x.csrc.toNat + x.ccnt.toNat ≤ 2 ^ 32) (hc : x.ccnt ≠ 0#20) :
    sourceAtEnd x = false := by
  refine Bool.eq_false_iff.2 fun he => ?_
  obtain ⟨-, hlast, hleft⟩ := sourceAtEnd_iff.1 he
  rw [hlast] at h
  bv_omega

/-- A unit that is not the last leaves a session that streams. -/
theorem streamingPass_unitSent (h : StreamingPass s) (hmore : 1 < s.xfer.ccnt.toNat) : StreamingPass (unitSent s) := by
  have hx : (unitSent s).xfer = unitsCounted 1 s.xfer := unitSent_xfer h (by bv_omega)
  have hinside := h.insideMemory
  have hleft : (unitSent s).xfer.ccnt ≠ 0#20 := by rw [hx]; simp only [unitsCounted]; bv_omega
  have hinside' : (unitSent s).xfer.csrc.toNat + (unitSent s).xfer.ccnt.toNat ≤ 2 ^ 32 := by
    rw [hx]; simp only [unitsCounted]; bv_omega
  exact {
    handedOff := h.handedOff
    responsive := h.responsive
    unitReady := {
      armed := by rw [hx]; exact h.unitReady.armed
      busThere := h.unitReady.busThere
      session := by rw [hx]; exact h.unitReady.session
      request := rfl
      unitsLeft := hleft
      topology := by rw [hx]; exact h.unitReady.topology
      insideMemory := sourceAtEnd_of_inside hinside' hleft }
    rising := by rw [hx]; exact h.rising
    insideMemory := hinside' }

/-- As many units as do not end the pass: two steps each, the bytes in address order, the channel counted on, no register write. -/
theorem StreamingPass.runs {k : Nat} (h : StreamingPass s) (hk : k < s.xfer.ccnt.toNat) : ∃ t, RunsTo (2 * k) s t ∧
    t.tr = s.tr ++ streamEvents k s ∧ t.rw = s.rw ∧ t.xfer = unitsCounted k s.xfer ∧ UnitReady t := by
  induction k generalizing s with
  | zero => exact ⟨s, .refl s, by simp [streamEvents], rfl, (unitsCounted_zero _).symm, h.unitReady⟩
  | succ k ih =>
    have hmore : s.xfer.ccnt ≠ 1#20 := by bv_omega
    have hx : (unitSent s).xfer = unitsCounted 1 s.xfer := unitSent_xfer h hmore
    have hk' : k < (unitSent s).xfer.ccnt.toNat := by rw [hx]; simp only [unitsCounted]; bv_omega
    obtain ⟨t, hrun, htr, hrw, hxfer, hready⟩ := ih (streamingPass_unitSent h (by omega)) hk'
    refine ⟨t, hrun.unit h hmore, ?events, hrw, ?channel, hready⟩
    case events =>
      have htr' : (unitSent s).tr = s.tr ++ [.tx s.gpio.dc (memRead s.mem s.xfer.csrc)] := rfl
      rw [htr, htr', streamEvents_succ k h hmore, List.append_assoc]; rfl
    case channel => rw [hxfer, hx, ← unitsCounted_succ]

/-- Settles O60: the premises are a session that streams, and `k` units do not end its pass; the premise on `DIRMODE` is about silicon,
and no step reads it. -/
theorem streamSendsMemoryInOrder : Obligations.StreamSendsMemoryInOrder := by
  intro s k ho hb ha hresp _ hready hsrc hdst hinside hk
  exact StreamingPass.runs ⟨⟨ho, hb, ha⟩, hresp, hready, ⟨hsrc, hdst⟩, hinside⟩ hk

end Sys2Proof.Machine
end

section
/-! PROOFS. The two sinks of the orchestrator's binding (43_orchestrator.md rules R160, R161 and R174), WRITE_BYTE's byte (rule R171), and an
entry with bus handle `none`. -/

namespace Sys2Proof.Machine

/-! ### One byte -/

/-- A byte transfer on a valid handle and a responsive bus (rules R106 and R109). -/
theorem transferOn_responsive {s : State} {h : Handle} {ch : Nat} (hb : s.bph = .idle) (hh : h = some ch)
    (hr : s.cfg.busResponsive = true) (b : Byte) : transferOn h b s = { s with
      bus := busSent b (Config.freeByte (s.drawn + waitDraws s)) s.bus
      tr := s.tr ++ [.tx s.gpio.dc b]
      rw := s.rw ++ [.busDat b]
      drawn := s.drawn + waitDraws s + 1 } := by
  subst hh
  exact runTransfer_responsive b hb hr

/-- On `none` there is no byte transfer (rule R101). -/
theorem transferOn_none {h : Handle} (hh : h = none) (b : Byte) (s : State) : transferOn h b s = s := by rw [hh, transferOn]

/-- Without its return, which decides `PH` alone, a sink on a responsive bus sets the line and sends the byte at that level. -/
theorem orchestratorSink_responsive {s : State} {ch : Nat} (hb : s.bph = .idle) (hh : s.bh = some ch)
    (hr : s.cfg.busResponsive = true) (c : SinkCall) : orchestratorSink c s = { s with
      gpio := { s.gpio with dc := sinkLevel c }
      bus := busSent (sinkByte c) (Config.freeByte (s.drawn + waitDraws s)) s.bus
      tr := s.tr ++ [.dc (sinkLevel c), .tx (sinkLevel c) (sinkByte c)]
      rw := s.rw ++ [.busDat (sinkByte c)]
      drawn := s.drawn + waitDraws s + 1 } := by
  have hundo : orchestratorSink c s = { afterSink (callSink .orchestrator c s) with ph := (orchestratorSink c s).ph } := by
    rw [afterSink_eq, callSink]
  rw [hundo, sinkCall_responsive hb hh hr, orchestratorSink_ph]

/-- On handle `none` a sink is the line's operation alone (rule R174). -/
theorem orchestratorSink_none {s : State} (hh : s.bh = none) (c : SinkCall) :
    orchestratorSink c s = gpioSet .dc (sinkLevel c) s := 
  transferOn_none hh _ _

/-- A sink called with no byte transfer in progress runs. -/
theorem callAlone_idle {s : State} (hb : s.bph = .idle) (c : SinkCall) : callAlone c s = .next (orchestratorSink c s) := if_pos hb

/-- Settles O39: each operation is its sink, whose line and byte the call names. -/
theorem sinksSetTheLineThenSend : Obligations.SinksSetTheLineThenSend := by
  intro s b ch hb
  refine ⟨fun hh hr => ⟨?_, ?_⟩, fun hh => ⟨?_, ?_⟩⟩
  · exact (callAlone_idle hb (.command b)).trans (congrArg _ (orchestratorSink_responsive hb hh hr _))
  · exact (callAlone_idle hb (.parameter b)).trans (congrArg _ (orchestratorSink_responsive hb hh hr _))
  · exact (callAlone_idle hb (.command b)).trans (congrArg _ (orchestratorSink_none hh _))
  · exact (callAlone_idle hb (.parameter b)).trans (congrArg _ (orchestratorSink_none hh _))

/-- WRITE_BYTE in its phase is the byte transfer of its low byte on the orchestrator's handle (rule R171). -/
theorem execWriteByte_sends {s : State} (ho : s.ost = .handoff) (ha : s.xfer.trigOn = false) (hb : s.bph = .idle) (harg : Word) :
    execWriteByte harg s = .next (transferOn s.bh (harg.extractLsb' 0 8) { s with byte := harg.extractLsb' 0 8 }) := by
  have hlow : harg.setWidth 8 = harg.extractLsb' 0 8 := BitVec.setWidth_eq_extractLsb' (by decide)
  simp [execWriteByte, ho, ha, hb, hlow]

/-- Settles O6: the transfer is the one of a responsive bus at the line's level, and nothing on `none`. -/
theorem writeByteSendsOneByte : Obligations.WriteByteSendsOneByte := by
  intro s harg ch ho ha hb
  rw [exec, execWriteByte_sends ho ha hb]
  exact ⟨fun hh hr => congrArg _ (transferOn_responsive (s := { s with byte := harg.extractLsb' 0 8 }) hb hh hr _),
    fun hh => congrArg _ (transferOn_none hh _ _)⟩

/-! ### An entry with bus handle `none` -/

/-- The state once the tag and the first parameters `ps` of an entry with length byte `len` have been walked with no bus (rule R174). -/
def entryWalked (tag len : Byte) (ps : List Byte) (s : State) : State := { s with
  tp := s.tp + 2 + ps.length
  rem := len - BitVec.ofNat 8 ps.length
  ph := if len - BitVec.ofNat 8 ps.length = 0#8 then .head else .param
  byte := entryLast (tag, ps)
  gpio := { s.gpio with dc := !ps.isEmpty }
  tr := s.tr ++ entryLineEvents (tag, ps) }

/-- A sink with no bus and its return: the line is set, and `REM` decides the phase. -/
theorem sinkCall_none {s : State} (hb : s.bph = .idle) (hh : s.bh = none) (c : SinkCall) :
    afterSink (callSink .orchestrator c s) = { s with
      ph := if s.rem = 0#8 then .head else .param
      gpio := { s.gpio with dc := sinkLevel c }
      tr := s.tr ++ [.dc (sinkLevel c)] } := by
  rw [callSink, orchestratorSink_none hh, afterSink_returned (s := gpioSet .dc (sinkLevel c) s) hb]
  rfl

section
variable {s : State} (hb : s.bph = .idle) (hh : s.bh = none)
include hb hh

/-- The line is low for the tag. -/
theorem sinkCall_header_none (tag len : Byte) :
    afterSink (callSink .orchestrator (.command tag) (headerRead tag len s)) = entryWalked tag len [] s := by
  rw [sinkCall_none (s := headerRead tag len s) hb hh]
  simp only [entryWalked, List.length_nil, BitVec.sub_zero]
  rfl

/-- The line is high for each parameter. -/
theorem sinkCall_parameter_none (tag len p : Byte) (ps : List Byte) :
    afterSink (callSink .orchestrator (.parameter p) (parameterRead p (entryWalked tag len ps s))) =
      entryWalked tag len (ps ++ [p]) s := by
  have hrem : len - BitVec.ofNat 8 ps.length - 1#8 = len - BitVec.ofNat 8 (ps.length + 1) := by
    rw [BitVec.sub_sub, BitVec.ofNat_add]
  rw [sinkCall_none (s := parameterRead p (entryWalked tag len ps s)) hb hh]
  simp [entryWalked, parameterRead, sinkLevel, entryLast, entryLineEvents, hrem, Nat.add_assoc]

/-- The inner loop goes on from the parameters `ps` already walked through those left. -/
theorem sendParameters_entryWalked (tag len : Byte) (ps qs : List Byte) :
    sendParameters qs (entryWalked tag len ps s) = entryWalked tag len (ps ++ qs) s := by
  induction qs generalizing ps with
  | nil => rw [sendParameters, List.append_nil]
  | cons q qs ih =>
    have hi : (entryWalked tag len ps s).bph = .idle := hb
    rw [sendParameters, if_pos hi, sinkCall_parameter_none hb hh, ih, List.append_assoc, List.singleton_append]

end

/-- Settles O36: all parameters are walked, so none is left and the sequencer stands at a head. -/
theorem entryWithoutBusMovesOnlyTheLine : Obligations.EntryWithoutBusMovesOnlyTheLine := by
  intro s tag len ps hlen hb hh
  have hrem : len - BitVec.ofNat 8 ps.length = 0#8 := by simp [hlen]
  refine (if_pos hb).trans (congrArg _ ?_)
  rw [sinkCall_header_none hb hh, sendParameters_entryWalked hb hh, List.nil_append]
  simp only [entryWalked, hrem, if_true]

end Sys2Proof.Machine
end

section
/-! PROOFS. `play` over the orchestrator's sinks (43_orchestrator.md rules R159, R170 and R174): an iteration of the outer loop is ENTRY, the loop
is its iterations one after the other, and what they leave is read off for each form of the bus handle. -/

namespace Sys2Proof.Machine

/-! ### The loops -/

/-- Where the parameters stand at `TP`, the inner loop that reads them is the one over parameters already decoded. -/
theorem playParameters_orchestrator {ps rest : List Byte} {s : State} (ht : s.cfg.table.drop s.tp = ps ++ rest) :
    playParameters ps.length .orchestrator s = .next (sendParameters ps s) := by
  induction ps generalizing s with
  | nil => rfl
  | cons p ps ih =>
    by_cases hb : s.bph = .idle
    · simp only [List.length_cons, playParameters, sendParameters, if_pos hb,
        readParameter_inside (getElem?_of_drop_eq_cons ht)]
      exact ih (by simpa [parameterRead] using drop_succ_of_drop_eq_cons ht)
    · simp only [List.length_cons, playParameters, sendParameters, if_neg hb]

/-- The state that ENTRY leaves for an entry of the table, on the orchestrator's sinks. -/
def entryPlayed (s : State) (e : Byte × List Byte) : State :=
  sendParameters e.2 (afterSink (callSink .orchestrator (.command e.1) (headerRead e.1 (BitVec.ofNat 8 e.2.length) s)))

theorem exec_entry_eq_entryPlayed {s : State} (hb : s.bph = .idle) (e : Byte × List Byte) :
    exec (.entry e.1 (BitVec.ofNat 8 e.2.length) e.2) s = .next (entryPlayed s e) := if_pos hb

/-- An iteration of the outer loop plays the entry that stands at `TP`. -/
theorem playEntry_orchestrator {s : State} {e : Byte × List Byte} {rest : List Byte} (hlen : e.2.length ≤ 255)
    (ht : s.cfg.table.drop s.tp = entryBytes e ++ rest) : playEntry .orchestrator s = .next (entryPlayed s e) := by
  have hn : (BitVec.ofNat 8 e.2.length).toNat = e.2.length := by simp; omega
  have hlast := drop_succ_of_drop_eq_cons ht
  have hps : s.cfg.table.drop (s.tp + 2) = e.2 ++ rest := drop_succ_of_drop_eq_cons hlast
  simp only [playEntry, readHeader_inside (getElem?_of_drop_eq_cons ht) (getElem?_of_drop_eq_cons hlast)]
  rw [show (headerRead e.1 (BitVec.ofNat 8 e.2.length) s).rem.toNat = _ from hn]
  exact playParameters_orchestrator (by simpa [headerRead] using hps)

/-- With a bus that answers, an entry sends its bytes (rule R81). -/
theorem entryPlayed_responsive {s : State} {ch : Nat} {e : Byte × List Byte} (hb : s.bph = .idle) (hh : s.bh = some ch)
    (hr : s.cfg.busResponsive = true) (hlen : e.2.length ≤ 255) : entryPlayed s e = { s with
      tp := s.tp + (entryBytes e).length, rem := 0#8, ph := .head, byte := entryLast e
      gpio := { s.gpio with dc := !e.2.isEmpty }
      bus := busSent (entryLast e) (Config.freeByte (s.drawn + waitDraws s + e.2.length)) s.bus
      tr := s.tr ++ entryEvents e, rw := s.rw ++ entryWrites e, drawn := s.drawn + waitDraws s + 1 + e.2.length } := by
  have hn : e.2.length = (BitVec.ofNat 8 e.2.length).toNat := by simp; omega
  have h := (exec_entry_eq_entryPlayed hb e).symm.trans (entrySendsTagThenParameters s e.1 _ e.2 ch hn hb hh hr)
  rw [length_entryBytes, ← Nat.add_assoc]
  exact Host.Outcome.next.inj h

/-- With no bus, only the line moves (rule R174). -/
theorem entryPlayed_none {s : State} {e : Byte × List Byte} (hb : s.bph = .idle) (hh : s.bh = none) (hlen : e.2.length ≤ 255) :
    entryPlayed s e = { s with
      tp := s.tp + (entryBytes e).length, rem := 0#8, ph := .head, byte := entryLast e
      gpio := { s.gpio with dc := !e.2.isEmpty }, tr := s.tr ++ entryLineEvents e } := by
  have hn : e.2.length = (BitVec.ofNat 8 e.2.length).toNat := by simp; omega
  have h := (exec_entry_eq_entryPlayed hb e).symm.trans (entryWithoutBusMovesOnlyTheLine s e.1 _ e.2 hn hb hh)
  rw [length_entryBytes, ← Nat.add_assoc]
  exact Host.Outcome.next.inj h

/-- No byte transfer is in progress, and none that begins is left in a wait: there is no bus, or it answers. -/
def sendsAtOnce (s : State) : Prop := s.bph = .idle ∧ (s.bh = none ∨ s.cfg.busResponsive = true)

/-- With either handle an entry takes the sequencer past its bytes, and the next is played the same way. -/
theorem entryPlayed_moves {s : State} {e : Byte × List Byte} (hs : sendsAtOnce s) (hlen : e.2.length ≤ 255) :
    sendsAtOnce (entryPlayed s e) ∧ (entryPlayed s e).cfg = s.cfg ∧ (entryPlayed s e).tp = s.tp + (entryBytes e).length := by
  obtain ⟨hb, ha⟩ := hs
  cases hh : s.bh with
  | none => rw [entryPlayed_none hb hh hlen]; exact ⟨⟨hb, ha⟩, rfl, rfl⟩
  | some ch =>
    have hr : s.cfg.busResponsive = true := ha.resolve_left (by simp [hh])
    rw [entryPlayed_responsive hb hh hr hlen]
    exact ⟨⟨hb, ha⟩, rfl, rfl⟩

/-- The outer loop, with enough iterations left, plays every entry that `Parse` finds from `TP` on. -/
theorem playEntries_orchestrator {n : Nat} {es : List (Byte × List Byte)} {s : State} (hs : sendsAtOnce s)
    (hn : s.cfg.tableLen ≤ s.tp + n) (he : parseTable (s.cfg.table.drop s.tp) = some es) :
    playEntries n .orchestrator s = .next (es.foldl entryPlayed s) := by
  induction es generalizing n s with
  | nil =>
    have hend : s.cfg.tableLen ≤ s.tp := List.drop_eq_nil_iff.1 (parseTable_eq_some_nil_iff.1 he)
    cases n with
    | zero => rfl
    | succ n => simp [playEntries, playOver, hend]
  | cons e es ih =>
    obtain ⟨rest, ht, hlen, hrest⟩ := parseTable_eq_some_cons_iff.1 he
    have hbytes : s.cfg.tableLen - s.tp = (entryBytes e).length + rest.length := by
      rw [← List.length_append, ← ht, List.length_drop]
    have hnext : s.cfg.table.drop (s.tp + (entryBytes e).length) = rest := by rw [← List.drop_drop, ht, List.drop_left]
    have hpos : 0 < (entryBytes e).length := by rw [length_entryBytes]; omega
    have hover : playOver s = false := decide_eq_false (by omega)
    obtain ⟨n, rfl⟩ : ∃ m, n = m + 1 := ⟨n - 1, by omega⟩
    obtain ⟨hs', hcfg, htp⟩ := entryPlayed_moves hs hlen
    rw [playEntries, if_pos ⟨hs.1, hover⟩, playEntry_orchestrator hlen ht]
    exact ih hs' (by rw [hcfg, htp]; omega) (by rw [hcfg, htp, hnext, hrest])

/-- `play` plays the entries of the table from its start. -/
theorem exec_play_orchestrator {s : State} {es : List (Byte × List Byte)} (hs : sendsAtOnce s)
    (he : parseTable s.cfg.table = some es) : exec (.play .orchestrator) s = .next (es.foldl entryPlayed (startPlay s)) :=
  (if_pos hs.1).trans (playEntries_orchestrator (s := startPlay s) hs (Nat.le_add_left _ _) he)

/-! ### What the entries leave -/

/-- Entries on a bus that answers, from a head and an idle bus: their events and data writes in order, and the bus idle again. -/
theorem foldl_entryPlayed_responsive {es : List (Byte × List Byte)} {s : State} {ch : Nat} (hb : s.bph = .idle) (hh : s.bh = some ch)
    (hr : s.cfg.busResponsive = true) (hp : s.ph = .head) (hready : s.bus.ready = true) (hlen : ∀ e ∈ es, e.2.length ≤ 255) :
    ∃ r b dc u d, es.foldl entryPlayed s = { s with
      tp := s.tp + (es.flatMap entryBytes).length, rem := r, ph := .head, byte := b, gpio := { s.gpio with dc := dc }, bus := u
      tr := s.tr ++ es.flatMap entryEvents, rw := s.rw ++ es.flatMap entryWrites, drawn := d } ∧
      u.ready = true ∧ u.con = s.bus.con ∧ u.pre = s.bus.pre := by
  induction es generalizing s with
  | nil => exact ⟨s.rem, s.byte, s.gpio.dc, s.bus, s.drawn, by simp [← hp], hready, rfl, rfl⟩
  | cons e es ih =>
    obtain ⟨he, hes⟩ := List.forall_mem_cons.1 hlen
    have hfirst := entryPlayed_responsive hb hh hr he
    obtain ⟨r, b, dc, u, d, hfold, hu⟩ := ih (s := entryPlayed s e) (by rwa [hfirst]) (by rwa [hfirst]) (by rwa [hfirst])
      (by rw [hfirst]) (by rw [hfirst, busSent]) hes
    rw [hfirst] at hfold hu
    exact ⟨r, b, dc, u, d, by simpa [hfirst, Nat.add_assoc] using hfold, hu⟩

/-- Entries with no bus, from a head: the line's events in order. -/
theorem foldl_entryPlayed_none {es : List (Byte × List Byte)} {s : State} (hb : s.bph = .idle) (hh : s.bh = none) (hp : s.ph = .head)
    (hlen : ∀ e ∈ es, e.2.length ≤ 255) : ∃ r b dc, es.foldl entryPlayed s = { s with
      tp := s.tp + (es.flatMap entryBytes).length, rem := r, ph := .head, byte := b, gpio := { s.gpio with dc := dc }
      tr := s.tr ++ es.flatMap entryLineEvents } := by
  induction es generalizing s with
  | nil => exact ⟨s.rem, s.byte, s.gpio.dc, by simp [← hp]⟩
  | cons e es ih =>
    obtain ⟨he, hes⟩ := List.forall_mem_cons.1 hlen
    have hfirst := entryPlayed_none hb hh he
    obtain ⟨r, b, dc, hfold⟩ := ih (s := entryPlayed s e) (by rwa [hfirst]) (by rwa [hfirst]) (by rw [hfirst]) hes
    rw [hfirst] at hfold
    exact ⟨r, b, dc, by simpa [hfirst, Nat.add_assoc] using hfold⟩

/-- Settles O38: the entries are those of the table, whose bytes are theirs; with each handle they leave what one entry after the other
leaves. -/
theorem playLeavesExactlyTheParsedTraces : Obligations.PlayLeavesExactlyTheParsedTraces := by
  intro s es he hb
  obtain ⟨hbytes, hlen⟩ := (parseInvertsTheByteImage _ es).1 he
  have hend : (startPlay s).tp + (es.flatMap entryBytes).length = s.cfg.tableLen := by
    rw [← hbytes, startPlay_tp, Nat.zero_add]
  refine ⟨fun ch hh hready hr => ?responsive, fun hh => ?none⟩
  case responsive =>
    obtain ⟨r, b, dc, u, d, hfold, hu, hcon, hpre⟩ :=
      foldl_entryPlayed_responsive (s := startPlay s) hb hh hr rfl hready hlen
    exact ⟨_, (exec_play_orchestrator ⟨hb, .inr hr⟩ he).trans (congrArg _ hfold), rfl, rfl, hend, rfl, hu, hcon, hpre, rfl, rfl⟩
  case none =>
    obtain ⟨r, b, dc, hfold⟩ := foldl_entryPlayed_none (s := startPlay s) hb hh rfl hlen
    exact ⟨_, (exec_play_orchestrator ⟨hb, .inl hh⟩ he).trans (congrArg _ hfold), rfl, hend, rfl, rfl, rfl⟩

end Sys2Proof.Machine
end

section
/-! PROOFS. While a shift is in progress the lines stand still (43_orchestrator.md rule R162): the thread is after hand-off, where no instruction
has the lines in its footprint, or polls in play. -/

namespace Sys2Proof.Machine

/-- An instruction without the lines in its footprint leaves them. -/
theorem exec_gpio {i : Instr} {s t : State} (hl : (footprint i).lines = false) (e : exec i s = .next t) : t.gpio = s.gpio := by
  obtain ⟨-, -, -, -, -, -, -, -, -, -, -, -, hlines, -⟩ := eachBlockHasItsWriters i s t e
  exact hlines hl

/-- The thread has no step that could change a line: it is after hand-off, or inside a byte transfer of play. -/
def linesHeld (s : State) : Prop := s.ost = .handoff ∨ (s.ost = .play ∧ s.bph ≠ .idle)

/-- A busy bus is the stream's, a WRITE_BYTE's, or one in the second wait of play (70_reset_and_hazards.md rule R229). -/
theorem linesHeld_of_busy {s : State} (h : ControlInv s) (hr : s.bus.ready = false) : linesHeld s := by
  by_cases hh : s.ost = .handoff
  · exact .inl hh
  · have hb : s.bph ≠ .idle := by simp [h.busyInSecondWait hr hh]
    obtain ⟨-, ⟨hp, -⟩ | hh'⟩ := h.transferOwned hb
    · exact .inr ⟨hp, hb⟩
    · exact absurd hh' hh

/-- Inside a byte transfer on a busy bus step 4 polls and changes nothing. -/
theorem exec_step4_gpio_of_busy {s t : State} (ho : s.ost = .play) (hb : s.bph ≠ .idle) (hr : s.bus.ready = false)
    (e : exec .step4CommandPlayback s = .next t) : t.gpio = s.gpio := by
  rw [exec_step4 ho, playTransition_poll hb hr] at e
  cases e; rfl

/-- The step `OST` names is step 4's poll, or hand-off, which has no step of its own. -/
theorem exec_stepOf_gpio_of_busy {s t : State} (h : linesHeld s) (hr : s.bus.ready = false) (e : exec (stepOf s.ost) s = .next t) :
    t.gpio = s.gpio := by
  obtain ho | ⟨ho, hb⟩ := h
  · rw [ho] at e
    exact exec_gpio (i := stepOf .handoff) rfl e
  · rw [ho] at e
    exact exec_step4_gpio_of_busy ho hb hr e

/-- The thread's scheduled transition is that step, or the byte transfer of a WRITE_BYTE. -/
theorem exec_fetchOrch_gpio_of_busy {s t : State} (h : linesHeld s) (hr : s.bus.ready = false) (e : exec (fetchOrch s) s = .next t) :
    t.gpio = s.gpio := by
  obtain ⟨-, -, hf⟩ | hf := fetchOrch_cases s <;> rw [hf] at e
  · exact exec_gpio (i := .writeOnly s.bh s.byte) rfl e
  · exact exec_stepOf_gpio_of_busy h hr e

/-- What the thread runs unscheduled leaves the lines too: inside a byte transfer it begins no entry. -/
theorem exec_fetchThread_gpio_of_busy {s t : State} (h : linesHeld s) (hr : s.bus.ready = false)
    (e : exec (fetchThread s) s = .next t) : t.gpio = s.gpio := by
  obtain ho | ⟨ho, hb⟩ := h
  · simp only [fetchThread, ho] at e
    split at e
    · exact exec_gpio (i := .handoff) rfl e
    · exact exec_gpio (i := .writeOnly s.bh s.byte) rfl e
  · have hf : fetchThread s = .step4CommandPlayback := by simp [fetchThread, fetchPlay, ho, hb]
    exact exec_step4_gpio_of_busy ho hb hr (hf ▸ e)

theorem exec_fetchUnscheduled_gpio_of_busy {s t : State} (h : linesHeld s) (hr : s.bus.ready = false)
    (e : exec (fetchUnscheduled s) s = .next t) : t.gpio = s.gpio := by
  obtain hf | hf | hf | hf := fetchUnscheduled_cases s <;> rw [hf] at e
  · exact exec_fetchThread_gpio_of_busy h hr e
  · exact exec_gpio (i := .xferUnit) rfl e
  · exact exec_gpio (i := .busShift .complete) rfl e
  · exact exec_gpio (i := .hcmdNone) rfl e

/-- No host command has the lines in its footprint: WRITE_BYTE sends at the level the line has (rule R171). -/
theorem footprint_decodeHcmd_lines (code : BitVec 2) (harg : Word) : (footprint (decodeHcmd code harg)).lines = false := by
  unfold decodeHcmd
  split <;> rfl

/-- HOST's framebuffer write is not to the lines. -/
theorem hostWriteByte_gpio {a : Addr} {b : Byte} {s t : State} (e : hostWriteByte a b s = .next t) : t.gpio = s.gpio := by
  unfold hostWriteByte at e
  split at e
  · cases e; rfl
  · cases e

/-- A scheduled move other than RESET leaves the lines. -/
theorem takeMove_gpio_of_busy {m : Move} {s t : State} (h : linesHeld s) (hr : s.bus.ready = false) (hm : m ≠ .reset)
    (e : takeMove m s = .next t) : t.gpio = s.gpio := by
  cases m with
  | orch => exact exec_fetchOrch_gpio_of_busy h hr e
  | bus => exact exec_gpio (i := .busShift .complete) rfl e
  | xfer => exact exec_gpio (i := .xferUnit) rfl e
  | env => cases e; exact answerDelay_gpio s
  | host code harg => exact exec_gpio (footprint_decodeHcmd_lines code harg) e
  | hostWrite a b => exact hostWriteByte_gpio e
  | reset => exact absurd rfl hm

/-- Settles O55: by the agent that moves; only the thread has instructions that write the lines, and its own holds them. -/
theorem lineIsStableOverAShift : Obligations.LineIsStableOverAShift := by
  intro s t h hr hm e
  have hheld := linesHeld_of_busy h hr
  cases ha : s.agenda with
  | nil => exact exec_fetchUnscheduled_gpio_of_busy hheld hr (step_unscheduled ha ▸ e)
  | cons m more =>
    have hne : m ≠ .reset := by rintro rfl; simp [ha] at hm
    exact takeMove_gpio_of_busy (s := { s with agenda := more }) hheld hr hne (step_scheduled ha ▸ e)

end Sys2Proof.Machine
end

section
/-! PROOFS. INIT and the refusals of the two host commands (43_orchestrator.md rules R150, R171, R172), the two GPIO operations and the delay
(rules R152 and R158). -/

namespace Sys2Proof.Machine

/-! ### The host commands -/

/-- Settles O3: in IDLE, INIT takes the two selections, each its range check, and enters step 1. -/
theorem initLatchesAndEntersStepOne : Obligations.InitLatchesAndEntersStepOne := fun _ _ ho => if_pos ho

/-- Outside IDLE, INIT is refused (rule R172). -/
theorem execInit_outsideIdle {s : State} (ho : s.ost ≠ .idle) (fb : Addr) : execInit fb s = .refused .reinit := if_neg ho

/-- Before hand-off WRITE_BYTE is refused (rule R171). -/
theorem execWriteByte_beforeHandoff {s : State} (ho : s.ost ≠ .handoff) (harg : Word) :
    execWriteByte harg s = .refused .writeBeforeInit := if_pos ho

/-- On an armed channel WRITE_BYTE is refused (decision D35). -/
theorem execWriteByte_streaming {s : State} (ho : s.ost = .handoff) (ha : s.xfer.trigOn = true) (harg : Word) :
    execWriteByte harg s = .refused .writeWhileStreaming := (if_neg (not_not.2 ho)).trans (if_pos ha)

/-- Inside the byte transfer of an earlier one WRITE_BYTE is refused (log entry 11). -/
theorem execWriteByte_overlap {s : State} (ho : s.ost = .handoff) (ha : s.xfer.trigOn = false) (hb : s.bph ≠ .idle) (harg : Word) :
    execWriteByte harg s = .refused .transferInProgress :=
  (if_neg (not_not.2 ho)).trans ((if_neg (by simp [ha])).trans (if_pos hb))

/-- Settles O4: the guards of the two commands, in their order. -/
theorem hostCommandsRefusedOutsideTheirPhase : Obligations.HostCommandsRefusedOutsideTheirPhase := fun _ fb harg =>
  ⟨fun ho => execInit_outsideIdle ho fb, fun ho => execWriteByte_beforeHandoff ho harg, fun ho ha => execWriteByte_streaming ho ha harg,
    fun ho ha hb => execWriteByte_overlap ho ha hb harg⟩

/-! ### The lines and the delay -/

/-- Settles O16: each operation is defined as the write of its one bit and its one event. -/
theorem gpioOperationsDriveTheirLine : Obligations.GpioOperationsDriveTheirLine := fun _ _ => ⟨rfl, rfl, rfl, rfl⟩

/-- A delay is over where ENV has answered it or answers every one in time (rule R158). -/
theorem delayOver_iff {s : State} : delayOver s = true ↔ s.cfg.delaysEnd = true ∨ s.delayDone = true := by simp [delayOver]

/-- A delay that is over is recorded, and the thread goes on. -/
theorem delayThen_over {s : State} (h : s.cfg.delaysEnd = true ∨ s.delayDone = true) (n : Nat) (k : State → State) :
    delayThen n k s = k (delay n s) := if_pos (delayOver_iff.2 h)

/-- A delay that is not over holds the thread (log entry 21). -/
theorem delayThen_notOver {s : State} (he : s.cfg.delaysEnd = false) (hd : s.delayDone = false) (n : Nat) (k : State → State) :
    delayThen n k s = s := if_neg (by simp [delayOver_iff, he, hd])

/-- Settles O17: the operation is a delay with nothing after it. -/
theorem delayOnlyRecordsTheWait : Obligations.DelayOnlyRecordsTheWait := fun _ n =>
  ⟨fun h => congrArg _ (delayThen_over h n id), fun he hd => congrArg _ (delayThen_notOver he hd n id)⟩

end Sys2Proof.Machine
end

section
/-! PROOFS. The orchestrator's steps, action by action (43_orchestrator.md rules R154 to R169): which operation runs at each `SUB`, and what it
leaves. -/

namespace Sys2Proof.Machine

/-- An action that is counted at a given `SUB` (10_state.md rule R11). -/
theorem countAction_of_sub {s : State} {n : BitVec 2} (hs : s.sub = n) : countAction s = { s with sub := n + 1#2 } := by
  rw [countAction, hs]

/-- The first access of an action of two writes on a valid handle (20_memory.md rule R46). -/
theorem oneWriteOf_writesOn_first {s : State} {h : Handle} {ch : Nat} (hh : h = some ch) (hm : s.midAction = false) (w v : RegW)
    (k : State → State) : oneWriteOf (writesOn h [w, v]) k s = { regWrite w s with midAction := true } := by
  rw [hh]; exact oneWriteOf_first w v k hm

/-- The second access, with which the action is over. -/
theorem oneWriteOf_writesOn_second {s : State} {h : Handle} {ch : Nat} (hh : h = some ch) (hm : s.midAction = true) (w v : RegW)
    (k : State → State) : oneWriteOf (writesOn h [w, v]) k s = k { regWrite v s with midAction := false } := by
  rw [hh]; exact oneWriteOf_second w v k hm

/-- On handle `none` the action is over at once (rule R101, 42_transfer_engine.md rule R121). -/
theorem oneWriteOf_writesOn_none {h : Handle} (hh : h = none) (ws : List RegW) (k : State → State) (s : State) :
    oneWriteOf (writesOn h ws) k s = k s := by
  rw [hh]; exact oneWriteOf_none k s

/-! ### Steps 1, 5 and 6 -/

/-- The first action of step 1 is the reset line's (rule R154). -/
theorem execStep1PinConfig_reset {s : State} (ho : s.ost = .pincfg) (hs : s.sub = 0#2) :
    execStep1PinConfig s = .next (countAction (gpioOutput .rst s)) := by
  rw [execStep1PinConfig, atStep_self ho, hs]; rfl

/-- The second action of step 1 is the command/data line's, and ends the step. -/
theorem execStep1PinConfig_data {s : State} (ho : s.ost = .pincfg) (hs : s.sub = 1#2) :
    execStep1PinConfig s = .next (enterStep .busup (gpioOutput .dc s)) := by
  rw [execStep1PinConfig, atStep_self ho, hs]; rfl

/-- Settles O7: one line an action, and the second ends the step. -/
theorem pinConfigDrivesBothLines : Obligations.PinConfigDrivesBothLines := by
  intro s ho
  refine ⟨fun hs => ?reset, fun hs => execStep1PinConfig_data ho hs⟩
  case reset => exact (execStep1PinConfig_reset ho hs).trans (congrArg _ (countAction_of_sub (s := gpioOutput .rst s) hs))

/-- Settles O10: both steps end at once, step 6 with the line high. -/
theorem windowPassesAndDataModeRaisesTheLine : Obligations.WindowPassesAndDataModeRaisesTheLine := fun _ =>
  ⟨fun ho => atStep_self ho, fun ho => atStep_self ho⟩

/-! ### Step 2 -/

/-- The first action of step 2 is `configure` with the mode, one access at a time (rule R155). -/
theorem execStep2BusBringup_configure {s : State} (ho : s.ost = .busup) (hs : s.sub = 0#2) :
    execStep2BusBringup s = .next (oneWriteOf (writesOn s.bh (configureWrites (modeBits s.cfg))) countAction s) := by
  rw [execStep2BusBringup, atStep_self ho, hs]; rfl

/-- On handle `none` the second action writes nothing (rule R101). -/
theorem setClockRateOn_none {h : Handle} (hh : h = none) (hz : Nat) (s : State) : setClockRateOn h hz s = .next s := by
  rw [hh]; rfl

/-- The mode is not zero, for the clock is enabled (30_encoding.md rule R70). -/
theorem modeBits_ne_zero (c : Config) : modeBits c ≠ 0#8 := by
  have hclock : ∀ (dirmode : BitVec 2) (cpol cpha : BitVec 1), modeWord dirmode 1#1 1#1 cpol cpha ≠ 0#8 := by decide
  exact hclock _ _ _

/-- So its write re-arms nothing (10_state.md rule R21). -/
theorem regWrite_busCon_modeBits (s : State) : regWrite (.busCon (modeBits s.cfg)) s = { s with
    bus := { s.bus with con := modeBits s.cfg }, rw := s.rw ++ [.busCon (modeBits s.cfg)] } := by
  simp [regWrite, storeReg, storeBusCon, modeBits_ne_zero]

/-- Settles O8: the two accesses of `configure`, then the prescaler of a rate in range; on `none` none of them. -/
theorem busBringupConfiguresThenSetsRate : Obligations.BusBringupConfiguresThenSetsRate := by
  intro s ch ho
  refine ⟨fun hs hh hm => ?zero, fun hs hh hm => ?mode, fun hs hh hlow hhigh => ?rate, fun hs hh => ?noConfigure, fun hs hh => ?noRate⟩
  case zero => exact (execStep2BusBringup_configure ho hs).trans (congrArg _ (oneWriteOf_writesOn_first hh hm _ _ _))
  case mode =>
    rw [exec, execStep2BusBringup_configure ho hs, configureWrites, oneWriteOf_writesOn_second hh hm, regWrite_busCon_modeBits,
      countAction_of_sub (by exact hs)]
    rfl
  case rate =>
    have hp := prescaler_of_range hlow hhigh
    have hrate : setClockRateOn s.bh s.cfg.targetHz s = .next (regWrite (.busPre _) s) := hh ▸ setClockRateOn_of_prescaler ch hp
    rw [exec, execStep2BusBringup_clockRate ho hs, hrate]
    rfl
  case noConfigure =>
    rw [exec, execStep2BusBringup_configure ho hs, oneWriteOf_writesOn_none hh, countAction_of_sub hs]
    rfl
  case noRate =>
    rw [exec, execStep2BusBringup_clockRate ho hs, setClockRateOn_none hh]
    rfl

/-! ### Step 3 -/

/-- The first action of step 3 drives the reset line low (rule R157). -/
theorem execStep3ResetPulse_low {s : State} (ho : s.ost = .resetPulse) (hs : s.sub = 0#2) :
    execStep3ResetPulse s = .next (countAction (gpioSet .rst false s)) := by
  rw [execStep3ResetPulse, atStep_self ho, hs]; rfl

/-- The second is the low time's delay. -/
theorem execStep3ResetPulse_lowWait {s : State} (ho : s.ost = .resetPulse) (hs : s.sub = 1#2) :
    execStep3ResetPulse s = .next (delayThen s.cfg.tLowMs countAction s) := by
  rw [execStep3ResetPulse, atStep_self ho, hs]; rfl

/-- The third drives the reset line high. -/
theorem execStep3ResetPulse_high {s : State} (ho : s.ost = .resetPulse) (hs : s.sub = 2#2) :
    execStep3ResetPulse s = .next (countAction (gpioSet .rst true s)) := by
  rw [execStep3ResetPulse, atStep_self ho, hs]; rfl

/-- The fourth is the high time's delay, and enters step 4 at the table's head. -/
theorem execStep3ResetPulse_highWait {s : State} (ho : s.ost = .resetPulse) (hs : s.sub = 3#2) :
    execStep3ResetPulse s = .next (delayThen s.cfg.tHighMs (fun t => startPlay (enterStep .play t)) s) := by
  rw [execStep3ResetPulse, atStep_self ho, hs]; rfl

/-- Settles O9: the four actions, and a delay that is not over at either wait; the port shows what the thread asks for. -/
theorem resetPulseIsLowWaitHighWait : Obligations.ResetPulseIsLowWaitHighWait := by
  intro s ho
  refine ⟨fun hs => ?low, fun hs h => ?lowWait, fun hs => ?high, fun hs h => ?highWait, fun hs he hd => ?held, ?port⟩
  case low => exact (execStep3ResetPulse_low ho hs).trans (congrArg _ (countAction_of_sub (s := gpioSet .rst false s) hs))
  case lowWait =>
    rw [exec, execStep3ResetPulse_lowWait ho hs, delayThen_over h, countAction_of_sub (s := delay _ s) hs]
    rfl
  case high => exact (execStep3ResetPulse_high ho hs).trans (congrArg _ (countAction_of_sub (s := gpioSet .rst true s) hs))
  case highWait => exact (execStep3ResetPulse_highWait ho hs).trans (congrArg _ (delayThen_over h _ _))
  case held =>
    rcases hs with hs | hs
    · exact (execStep3ResetPulse_lowWait ho hs).trans (congrArg _ (delayThen_notOver he hd _ _))
    · exact (execStep3ResetPulse_highWait ho hs).trans (congrArg _ (delayThen_notOver he hd _ _))
  case port => simp [portsOf, delayRequested, ho]

/-! ### Steps 7 and 8 -/

/-- The first action of step 7 is `set_source` with the framebuffer's base, one access at a time (rule R165). -/
theorem execStep7SessionSetup_source {s : State} (ho : s.ost = .xsetup) (hs : s.sub = 0#2) :
    execStep7SessionSetup s = .next (oneWriteOf (writesOn s.xh (sourceWrites s.fbb (srccBits s.cfg))) countAction s) := by
  rw [execStep7SessionSetup, atStep_self ho, hs]; rfl

/-- The second is `set_destination`. -/
theorem execStep7SessionSetup_destination {s : State} (ho : s.ost = .xsetup) (hs : s.sub = 1#2) :
    execStep7SessionSetup s = .next (setupDestination s) := by
  rw [execStep7SessionSetup, atStep_self ho, hs]; rfl

/-- With no transfer handle, with a bus, and between the two accesses no free word is used. -/
theorem drawDestination_kept {s : State} (h : s.xh = none ∨ s.bh ≠ none ∨ s.midAction = true) : drawDestination s = s :=
  if_neg (by rintro ⟨hx, hb, hm⟩; simp [hb, hm, Option.isSome_iff_ne_none.1 hx] at h)

/-- With no bus the address is a free word, used up with the first access (rule R174). -/
theorem drawDestination_none {s : State} (hx : s.xh.isSome) (hb : s.bh = none) (hm : s.midAction = false) :
    drawDestination s = draw s := if_pos ⟨hx, hb, hm⟩

theorem destinationAddr_some {s : State} {ch : Nat} (hb : s.bh = some ch) : destinationAddr s = s.cfg.busDatAddr := by
  simp only [destinationAddr, hb]

theorem destinationAddr_none {s : State} (hb : s.bh = none) : destinationAddr s = Config.freeWord s.drawn := by
  simp only [destinationAddr, hb]

/-- On a valid transfer handle a count in range is one write of the control word (rule R167). -/
theorem setupControl_of_ctlWord {s : State} {xch : Nat} {w : Word} (hx : s.xh = some xch) (hw : ctlWord s.cfg = some w) :
    setupControl s = .next (regWrite (.xferCon w) s) := by simp only [setupControl, hx, hw, setControlOn]

/-- On handle `none` the third action writes nothing (rule R121). -/
theorem setupControl_none {s : State} (hx : s.xh = none) : setupControl s = .next s := by simp only [setupControl, hx]

/-- With no transfer handle step 8 only ends (rule R174). -/
theorem execStep8Trigger_none {s : State} (ho : s.ost = .trigger) (hx : s.xh = none) :
    execStep8Trigger s = .next (enterStep .handoff s) := by simp [execStep8Trigger, atStep_self ho, hx, triggerOn, andThen]

/-- Settles O11: the two accesses of the source and of the destination, the latter's address by the bus handle, then the control word. -/
theorem sessionSetupProgramsTheChannel : Obligations.SessionSetupProgramsTheChannel := by
  intro s xch bch w ho hx
  refine ⟨fun hs hm => ?source, fun hs hm => ?sourceControl, fun hs hb hm => ?destination, fun hs hb hm => ?freeDestination,
    fun hs hm => ?destinationControl, fun hs hw => ?control⟩
  case source => exact (execStep7SessionSetup_source ho hs).trans (congrArg _ (oneWriteOf_writesOn_first hx hm _ _ _))
  case sourceControl =>
    rw [exec, execStep7SessionSetup_source ho hs, sourceWrites, oneWriteOf_writesOn_second hx hm, countAction_of_sub (by exact hs)]
    rfl
  case destination =>
    rw [exec, execStep7SessionSetup_destination ho hs, setupDestination, drawDestination_kept (by simp [hb]), destinationWrites,
      oneWriteOf_writesOn_first hx hm, destinationAddr_some hb]
    rfl
  case freeDestination =>
    rw [exec, execStep7SessionSetup_destination ho hs, setupDestination, drawDestination_none (by simp [hx]) hb hm, destinationWrites,
      oneWriteOf_writesOn_first (s := draw s) hx hm, destinationAddr_none hb]
    rfl
  case destinationControl =>
    rw [exec, execStep7SessionSetup_destination ho hs, setupDestination, drawDestination_kept (.inr (.inr hm)), destinationWrites,
      oneWriteOf_writesOn_second hx hm, countAction_of_sub (by exact hs)]
    rfl
  case control =>
    rw [exec, execStep7SessionSetup_control ho hs, setupControl_of_ctlWord hx hw]
    rfl

/-- Settles O12: on `none` each action of step 7 is over at once, and so is step 8. -/
theorem noTransferHandleSkipsTheSession : Obligations.NoTransferHandleSkipsTheSession := by
  intro s hx
  refine ⟨fun ho hs => ?source, fun ho hs => ?destination, fun ho hs => ?control, fun ho => ?trigger⟩
  case source =>
    rw [exec, execStep7SessionSetup_source ho hs, oneWriteOf_writesOn_none hx, countAction_of_sub hs]
    rfl
  case destination =>
    rw [exec, execStep7SessionSetup_destination ho hs, setupDestination, drawDestination_kept (.inl hx), oneWriteOf_writesOn_none hx,
      countAction_of_sub hs]
    rfl
  case control =>
    rw [exec, execStep7SessionSetup_control ho hs, setupControl_none hx]
    rfl
  case trigger => rw [exec, execStep8Trigger_none ho hx]; rfl

/-- Settles O13: the trigger word arms the channel and loads its working registers, and the step ends in hand-off. -/
theorem triggerArmsAndHandsOff : Obligations.TriggerArmsAndHandsOff := by
  intro s xch bch
  refine ⟨fun ho hx hb ha => ?armed, fun ho => atStep_self ho⟩
  case armed =>
    have htrigger : triggerOn s.xh s = .next (regWrite (.xferTrig (triggerWord s.xfer.con)) s) := hx ▸ triggerOn_notArmed xch ha
    rw [exec, execStep8Trigger_withBus ho (by simp [hb]), htrigger, regWrite_triggerWord ha]
    rfl

end Sys2Proof.Machine
end

section
/-! PROOFS. A thread whose wait never ends (60_exceptions.md rules R192 and R205): with nobody else able to get on it polls, and a poll changes
nothing. -/

namespace Sys2Proof.Machine

/-- A state that its step leaves as it is, every run leaves as it is. -/
theorem RunsTo.stays {s : State} (h : step s = .next s) (k : Nat) : RunsTo k s s := by
  induction k with
  | zero => exact .refl s
  | succ k ih => exact ih.head h

/-- An active thread takes the step, in a wait or not, where no software request is pending and neither BUS nor XFER can get on (log
entry 1). -/
theorem fetchUnscheduled_threadAlone {s : State} (ht : threadActive s = true) (hsw : s.xfer.trigSwreq = false)
    (hbus : s.bus.ready = true ∨ s.cfg.busResponsive = false) (hx : xferEnabled s = false) : fetchUnscheduled s = fetchThread s := by
  have hr : softwareRequest s = false := by simp [softwareRequest, hsw]
  have hb : (!statusReady s && s.cfg.busResponsive) = false := by
    rcases hbus with hbus | hbus <;> simp [statusReady, hbus]
  simp [fetchUnscheduled, ht, hr, hb, hx]

/-- Inside a byte transfer of step 4 the thread's instruction is the next transition of rule R89. -/
theorem fetchThread_inTransfer {s : State} (ho : s.ost = .play) (hb : s.bph ≠ .idle) : fetchThread s = .step4CommandPlayback := by
  simp only [fetchThread, ho, fetchPlay]
  exact if_neg fun ⟨hidle, _⟩ => hb hidle

/-- A busy-wait of step 4 on a bus that never answers is polled, and a poll changes nothing (rule R192). -/
theorem step_hungWait {s : State} (ha : s.agenda = []) (hsw : s.xfer.trigSwreq = false) (ho : s.ost = .play) (hb : s.bph ≠ .idle)
    (hbusy : s.bus.ready = false) (hr : s.cfg.busResponsive = false) : step s = .next s := by
  have ht : threadActive s = true := by simp [threadActive, ho]
  have hx : xferEnabled s = false := by simp [xferEnabled, busReq, hbusy]
  rw [step_unscheduled ha, fetchUnscheduled_threadAlone ht hsw (.inr hr) hx, fetchThread_inTransfer ho hb, exec_step4 ho,
    playTransition_poll hb hbusy]

/-- A delay of step 3 that never ends holds the thread where it is, with the bus ready and the channel not armed (rule R158, U20). -/
theorem step_hungDelay {s : State} (ha : s.agenda = []) (hsw : s.xfer.trigSwreq = false) (ho : s.ost = .resetPulse)
    (hs : s.sub = 1#2 ∨ s.sub = 3#2) (he : s.cfg.delaysEnd = false) (hd : s.delayDone = false) (hready : s.bus.ready = true)
    (hon : s.xfer.trigOn = false) : step s = .next s := by
  have ht : threadActive s = true := by simp [threadActive, ho]
  have hx : xferEnabled s = false := by simp [xferEnabled, hon]
  have hf : fetchThread s = .step3ResetPulse := by simp [fetchThread, ho, stepOf, ostCode, decodeOst]
  obtain ⟨-, -, -, -, held, -⟩ := resetPulseIsLowWaitHighWait s ho
  rw [step_unscheduled ha, fetchUnscheduled_threadAlone ht hsw (.inl hready) hx, hf, held hs he hd]

/-- Settles O50: each of the two waits is a state that its step leaves as it is. -/
theorem hungThreadNeverAdvances : Obligations.HungThreadNeverAdvances := fun _ k ha hsw =>
  ⟨fun ho hb hbusy hr => RunsTo.stays (step_hungWait ha hsw ho hb hbusy hr) k,
    fun ho hs he hd hready hon => RunsTo.stays (step_hungDelay ha hsw ho hs he hd hready hon) k⟩

end Sys2Proof.Machine
end

section
/-! PROOFS. RESET (70_reset_and_hazards.md rule R220), and what holds after hand-off (rules R230 and R114): no agent but the one that asserts
RESET writes the session, the bus configuration or a line. -/

namespace Sys2Proof.Machine

/-- Settles O2: RESET answers `State.resetWith` of the parameters, with the system memory there was. -/
theorem resetPortRestoresTheBlock : Obligations.ResetPortRestoresTheBlock := fun _ =>
  ⟨_, rfl, rfl, rfl, rfl, rfl, rfl, rfl, rfl, rfl, rfl, rfl, rfl, rfl, rfl, rfl, rfl, rfl, rfl, rfl⟩

/-! ### The instructions that keep the session -/

/-- What stays fixed after hand-off: the session registers of the channel, `BUS.CON` and `BUS.PRE`, and the two lines. -/
def sessionOf (s : State) : Word × Word × Word × Word × Word × Byte × Byte × Gpio :=
  (s.xfer.src, s.xfer.srcc, s.xfer.dst, s.xfer.dstc, s.xfer.con, s.bus.con, s.bus.pre, s.gpio)

/-- XFER's own step, or an instruction with neither the channel nor the bus configuration nor the lines in its footprint. -/
def keepsSession (i : Instr) : Prop := i = .xferUnit ∨
  ((footprint i).xfer = false ∧ (footprint i).busCon = false ∧ (footprint i).busPre = false ∧ (footprint i).lines = false)

/-- The end of a unit leaves the channel, disables it, or loads its working registers (42_transfer_engine.md rule R131). -/
theorem endOfPass_cases (x : XferBlock) : endOfPass x = x ∨ endOfPass x = { x with trigOn := false } ∨ endOfPass x = loadWorking x := by
  unfold endOfPass
  split
  · split
    · exact .inr (.inl rfl)
    · exact .inr (.inr rfl)
  · exact .inl rfl

/-- A unit moves the working registers and may disable the channel; it writes nothing of the session (rule R129). -/
theorem sessionOf_moveUnit (s : State) : sessionOf (moveUnit s) = sessionOf s := by
  rcases endOfPass_cases (countUnit s.xfer) with hx | hx | hx <;> rw [moveUnit, hx] <;> rfl

/-- XFER's step by what it can do, the others by their frames. -/
theorem exec_sessionOf {i : Instr} {s t : State} (hi : keepsSession i) (e : exec i s = .next t) : sessionOf t = sessionOf s := by
  obtain rfl | ⟨hx, hc, hp, hl⟩ := hi
  · obtain rfl | ⟨-, -, rfl⟩ := execXferUnit_next e
    · rfl
    · exact sessionOf_moveUnit s
  · obtain ⟨-, -, -, hxfer, hcon, hpre, -⟩ := eachBlockHasItsWriters i s t e
    simp only [sessionOf, hxfer hx, hcon hc, hpre hp, exec_gpio hl e]

/-! ### After hand-off the agents run no other -/

/-- The thread has the byte transfer of a WRITE_BYTE left, and no step (43_orchestrator.md rules R169 and R171). -/
theorem keepsSession_fetchThread {s : State} (ho : s.ost = .handoff) : keepsSession (fetchThread s) := by
  simp only [fetchThread, ho]
  split <;> exact .inr ⟨rfl, rfl, rfl, rfl⟩

theorem keepsSession_fetchOrch {s : State} (ho : s.ost = .handoff) : keepsSession (fetchOrch s) := by
  obtain ⟨-, -, hf⟩ | hf := fetchOrch_cases s
  · exact hf ▸ .inr ⟨rfl, rfl, rfl, rfl⟩
  · exact (hf.trans (congrArg stepOf ho)) ▸ .inr ⟨rfl, rfl, rfl, rfl⟩

theorem keepsSession_fetchUnscheduled {s : State} (ho : s.ost = .handoff) : keepsSession (fetchUnscheduled s) := by
  obtain hf | hf | hf | hf := fetchUnscheduled_cases s <;> rw [hf]
  · exact keepsSession_fetchThread ho
  · exact .inl rfl
  · exact .inr ⟨rfl, rfl, rfl, rfl⟩
  · exact .inr ⟨rfl, rfl, rfl, rfl⟩

/-- INIT and WRITE_BYTE, where they run at all, write none of the session. -/
theorem keepsSession_decodeHcmd (code : BitVec 2) (harg : Word) : keepsSession (decodeHcmd code harg) := by
  unfold decodeHcmd
  split <;> exact .inr ⟨rfl, rfl, rfl, rfl⟩

/-- HOST's framebuffer write is to memory alone (rule R243). -/
theorem hostWriteByte_sessionOf {a : Addr} {b : Byte} {s t : State} (e : hostWriteByte a b s = .next t) : sessionOf t = sessionOf s := by
  unfold hostWriteByte at e
  split at e
  · cases e; rfl
  · cases e

theorem takeMove_sessionOf {m : Move} {s t : State} (ho : s.ost = .handoff) (hm : m ≠ .reset) (e : takeMove m s = .next t) :
    sessionOf t = sessionOf s := by
  cases m with
  | orch => exact exec_sessionOf (keepsSession_fetchOrch ho) e
  | bus => exact exec_sessionOf (i := .busShift .complete) (.inr ⟨rfl, rfl, rfl, rfl⟩) e
  | xfer => exact exec_sessionOf (.inl rfl) e
  | env => cases e; simp only [sessionOf, answerDelay_xfer, answerDelay_bus, answerDelay_gpio]
  | host code harg => exact exec_sessionOf (keepsSession_decodeHcmd code harg) e
  | hostWrite a b => exact hostWriteByte_sessionOf e
  | reset => exact absurd rfl hm

/-- A step after hand-off that is not RESET's keeps the session, by the agent that moves. -/
theorem step_sessionOf {s t : State} (ho : s.ost = .handoff) (hm : s.agenda.head? ≠ some .reset) (e : step s = .next t) :
    sessionOf t = sessionOf s := by
  cases ha : s.agenda with
  | nil => exact exec_sessionOf (keepsSession_fetchUnscheduled ho) (step_unscheduled ha ▸ e)
  | cons m more =>
    have hne : m ≠ .reset := by rintro rfl; simp [ha] at hm
    exact takeMove_sessionOf (s := { s with agenda := more }) ho hne (step_scheduled ha ▸ e)

/-- `OST` never goes up from hand-off, the last of its values, so only RESET leaves it (43_orchestrator.md rule R151). -/
theorem step_ost_handoff {s t : State} (ho : s.ost = .handoff) (hm : s.agenda.head? ≠ some .reset) (e : step s = .next t) :
    t.ost = .handoff := by
  obtain hkeep | hup | ⟨-, hreset⟩ := orchestratorIsStrictlyForward s t e
  · exact hkeep.trans ho
  · rw [ho] at hup
    cases ht : t.ost <;> rw [ht] at hup <;> cases hup
  · exact absurd hreset hm

/-- Settles O56: hand-off is not left, and the session is kept register by register. -/
theorem sessionIsFixedAfterHandoff : Obligations.SessionIsFixedAfterHandoff := by
  intro s t ho hm e
  have hsession := step_sessionOf ho hm e
  simp only [sessionOf, Prod.mk.injEq] at hsession
  exact ⟨step_ost_handoff ho hm e, hsession⟩

end Sys2Proof.Machine
end

section
/-! PROOFS. The bring-up from INIT to hand-off (70_reset_and_hazards.md rule R242, 43_orchestrator.md rule R170): nothing but the thread moves,
so the run is the orchestrator's steps one after the other, each from the state the one before it leaves. -/

namespace Sys2Proof.Machine

/-! ### Runs of the thread alone -/

/-- A run goes on where another ends. -/
theorem RunsTo.trans {n m : Nat} {s t u : State} (h : RunsTo n s t) (k : RunsTo m t u) : RunsTo (m + n) s u := by
  induction n generalizing s with
  | zero => cases h; exact k
  | succ n ih =>
    simp only [RunsTo, Host.Core.run] at h
    split at h
    · next s' hs => exact (ih h).head hs
    · cases h
    · cases h

/-- A run of no steps ends where it began, however the state is written. -/
theorem RunsTo.of_eq {s t : State} (h : s = t) : RunsTo 0 s t := h ▸ .refl s

/-- Nothing keeps the thread from its next action: no move is scheduled, no byte transfer is in progress, and every delay ends. -/
def unhindered (s : State) : Prop := s.agenda = [] ∧ s.bph = .idle ∧ s.cfg.delaysEnd = true

theorem threadWaits_of_unhindered {s : State} (h : unhindered s) : threadWaits s = false := by
  obtain ⟨-, hb, hd⟩ := h
  simp [threadWaits, delayOver, hb, hd]

/-- The thread takes the step that `OST` names (10_state.md rule R10), and the run goes on from what it leaves. -/
theorem RunsTo.thread {n : Nat} {o : Ost} {i : Instr} {s t u : State} (h : unhindered s) (ho : s.ost = o)
    (hn : o ≠ .play ∧ o ≠ .handoff) (hd : decode (.ost (ostCode o)) = .ok (i, [])) (e : exec i s = .next t) (k : RunsTo n t u) :
    RunsTo (n + 1) s u := by
  subst ho
  have ⟨ha, _, _⟩ := h
  obtain ⟨hp, hh⟩ := hn
  obtain ⟨-, named, -⟩ := stepRunsTheDecodedInstruction s i []
  exact k.head ((named ha hp hh (threadWaits_of_unhindered h) hd).trans e)

/-! ### INIT and steps 1 to 3 -/

/-- INIT in IDLE (rule R150). -/
theorem runsTo_init {s : State} (ho : s.ost = .idle) (fb : Addr) : RunsTo 1 { s with agenda := [.host 1#2 fb] } { s with
    agenda := [], fbb := fb, bh := selectBus s.cfg s.cfg.busCh, xh := selectXfer s.cfg.xferCh, sub := 0#2, ost := .pincfg } := by
  obtain ⟨-, -, command⟩ := stepRunsTheDecodedInstruction { s with agenda := [.host 1#2 fb] } (.init fb) []
  exact .head ((command 1#2 fb [] rfl rfl).trans (initLatchesAndEntersStepOne { s with agenda := [] } fb ho)) (.refl _)

/-- Step 1: both lines are outputs (rule R154). -/
theorem runsTo_pinConfig {s : State} (h : unhindered s) (ho : s.ost = .pincfg) (hs : s.sub = 0#2) : RunsTo 2 s { s with
    gpio := { s.gpio with rstOe := true, dcOe := true }, tr := s.tr ++ [.dir .rst, .dir .dc], sub := 0#2, ost := .busup } := by
  have actions := pinConfigDrivesBothLines
  simp only [Obligations.PinConfigDrivesBothLines, forall_and] at actions
  obtain ⟨reset, data⟩ := actions
  refine .thread h ho (by decide) rfl (reset _ ho hs) ?_
  refine .thread h ho (by decide) rfl (data _ ho rfl) ?_
  exact .of_eq (by simp)

/-- Step 2: the bus is configured and its rate set (rule R155). -/
theorem runsTo_busBringup {s : State} {ch : Nat} {p : Byte} (h : unhindered s) (ho : s.ost = .busup) (hs : s.sub = 0#2)
    (hb : s.bh = some ch) (hm : s.midAction = false) (hp : prescaler s.cfg.pclk s.cfg.targetHz = some p) : RunsTo 3 s { s with
    bus := { s.bus with con := modeBits s.cfg, ready := true, pre := p }
    rw := s.rw ++ [.busCon 0#8, .busCon (modeBits s.cfg), .busPre p], sub := 0#2, ost := .resetPulse } := by
  obtain ⟨hlow, hhigh, rfl⟩ := prescaler_some hp
  have actions := busBringupConfiguresThenSetsRate
  simp only [Obligations.BusBringupConfiguresThenSetsRate, forall_and] at actions
  obtain ⟨zero, mode, rate, -⟩ := actions
  refine .thread h ho (by decide) rfl (zero _ ch ho hs hb hm) ?_
  refine .thread h ho (by decide) rfl (mode _ ch ho hs hb rfl) ?_
  refine .thread h ho (by decide) rfl (rate _ ch ho rfl hb hlow hhigh) ?_
  exact .of_eq (by simp [hm])

/-- Step 3: the reset pulse with its two delays, and the entry to step 4 (rule R157). -/
theorem runsTo_resetPulse {s : State} (h : unhindered s) (ho : s.ost = .resetPulse) (hs : s.sub = 0#2) : RunsTo 4 s { s with
    gpio := { s.gpio with rst := true }
    tr := s.tr ++ [.rst false, .wait s.cfg.tLowMs, .rst true, .wait s.cfg.tHighMs]
    delayDone := false, sub := 0#2, ost := .play, tp := 0, ph := .head } := by
  have ⟨_, _, hd⟩ := h
  have actions := resetPulseIsLowWaitHighWait
  simp only [Obligations.ResetPulseIsLowWaitHighWait, forall_and] at actions
  obtain ⟨low, lowWait, high, highWait, -⟩ := actions
  refine .thread h ho (by decide) rfl (low _ ho hs) ?_
  refine .thread h ho (by decide) rfl (lowWait _ ho rfl (.inl hd)) ?_
  refine .thread h ho (by decide) rfl (high _ ho rfl) ?_
  refine .thread h ho (by decide) rfl (highWait _ ho rfl (.inl hd)) ?_
  exact .of_eq (by simp)

/-! ### Step 4 -/

/-- From a head at an entry of the table an unscheduled step is that ENTRY (log entry 23). -/
theorem step_entry {s : State} {e : Byte × List Byte} {rest : List Byte} (ha : s.agenda = []) (ho : s.ost = .play)
    (hb : s.bph = .idle) (hp : s.ph = .head) (hlen : e.2.length ≤ 255) (ht : s.cfg.table.drop s.tp = entryBytes e ++ rest) :
    step s = .next (entryPlayed s e) := by
  have htp : s.tp < s.cfg.table.length := by
    have hne : s.cfg.table.drop s.tp ≠ [] := by simp [ht, entryBytes]
    simpa using hne
  have hd : decode (.table (s.cfg.table.drop s.tp)) = .ok (.entry e.1 (BitVec.ofNat 8 e.2.length) e.2, rest) := by
    rw [ht, decode, decodeEntry, splitEntry_entryBytes hlen]
  obtain ⟨entry, -⟩ := stepRunsTheDecodedInstruction s _ rest
  rw [entry ha ho hp hb htp hd, exec_entry_eq_entryPlayed hb]

/-- A step for every entry that `Parse` finds from `TP` on. -/
theorem runsTo_entries {es : List (Byte × List Byte)} {s : State} {ch : Nat} (ha : s.agenda = []) (ho : s.ost = .play)
    (hb : s.bph = .idle) (hh : s.bh = some ch) (hr : s.cfg.busResponsive = true) (hp : s.ph = .head)
    (he : parseTable (s.cfg.table.drop s.tp) = some es) : RunsTo es.length s (es.foldl entryPlayed s) := by
  induction es generalizing s with
  | nil => exact .refl s
  | cons e es ih =>
    obtain ⟨rest, ht, hlen, hrest⟩ := parseTable_eq_some_cons_iff.1 he
    have hfirst := entryPlayed_responsive hb hh hr hlen
    have hnext : s.cfg.table.drop (s.tp + (entryBytes e).length) = rest := by rw [← List.drop_drop, ht, List.drop_left]
    refine .head (step_entry ha ho hb hp hlen ht) (ih ?_ ?_ ?_ ?_ ?_ ?_ ?_) <;> rw [hfirst]
    · exact ha
    · exact ho
    · exact hb
    · exact hh
    · exact hr
    · exact hnext ▸ hrest

/-- At a head at the table's end the step of play is its end (40_sequencer.md rule R80). -/
theorem step_playOver {s : State} (h : unhindered s) (ho : s.ost = .play) (hp : s.ph = .head) (hl : s.cfg.table.length ≤ s.tp) :
    step s = .next (enterStep .window s) := by
  have ⟨ha, hb, _⟩ := h
  have ht : threadActive s = true := by simp [threadActive, ho]
  have hf : fetchThread s = .step4CommandPlayback := by simp [fetchThread, fetchPlay, ho, playOver, hl]
  rw [step_unscheduled ha, fetchUnscheduled_thread ht (threadWaits_of_unhindered h), hf, exec_step4 ho,
    playTransition_over hb hp hl]

/-- Step 4, from a run to its entry, on a bus that answers: the events and data writes of the table's entries, and the bus idle again
(rules R159 and R170). -/
theorem RunsTo.playback {n : Nat} {es : List (Byte × List Byte)} {s₀ s : State} {ch : Nat} (k : RunsTo n s₀ s)
    (h : unhindered s) (ho : s.ost = .play) (hh : s.bh = some ch) (hr : s.cfg.busResponsive = true) (hready : s.bus.ready = true)
    (hp : s.ph = .head) (htp : s.tp = 0) (he : parseTable s.cfg.table = some es) : ∃ r b dc u d, RunsTo (1 + es.length + n) s₀ { s with
      tp := s.cfg.tableLen, rem := r, byte := b, gpio := { s.gpio with dc := dc }, bus := u
      tr := s.tr ++ es.flatMap entryEvents, rw := s.rw ++ es.flatMap entryWrites, drawn := d, sub := 0#2, ost := .window } ∧
      u.ready = true ∧ u.con = s.bus.con ∧ u.pre = s.bus.pre := by
  have ⟨ha, hb, _⟩ := h
  obtain ⟨hbytes, hlen⟩ := (parseInvertsTheByteImage _ es).1 he
  have hend : s.tp + (es.flatMap entryBytes).length = s.cfg.tableLen := by rw [← hbytes, htp, Nat.zero_add]
  obtain ⟨r, b, dc, u, d, hfold, hu⟩ := foldl_entryPlayed_responsive hb hh hr hp hready hlen
  have hrun := runsTo_entries ha ho hb hh hr hp (by rwa [htp, List.drop_zero])
  rw [hfold, hend] at hrun
  refine ⟨r, b, dc, u, d, k.trans (hrun.trans (.head (step_playOver h ho rfl le_rfl) (.of_eq ?_))), hu⟩
  simp [enterStep, hp]

/-! ### Steps 5 to 8 -/

/-- Steps 5 and 6: the command/data line is high (rules R163 and R164). -/
theorem runsTo_dataMode {s : State} (h : unhindered s) (ho : s.ost = .window) : RunsTo 2 s { s with
    gpio := { s.gpio with dc := true }, tr := s.tr ++ [.dc true], sub := 0#2, ost := .xsetup } := by
  refine .thread h ho (by decide) rfl ((windowPassesAndDataModeRaisesTheLine s).1 ho) ?_
  refine .thread (o := .dataMode) h rfl (by decide) rfl ((windowPassesAndDataModeRaisesTheLine _).2 rfl) ?_
  exact .refl _

/-- Step 7: the session in five writes (rule R165). -/
theorem runsTo_sessionSetup {s : State} {ch xch : Nat} {w : Word} (h : unhindered s) (ho : s.ost = .xsetup) (hs : s.sub = 0#2)
    (hb : s.bh = some ch) (hx : s.xh = some xch) (hm : s.midAction = false) (hw : ctlWord s.cfg = some w) : RunsTo 5 s { s with
    xfer := { s.xfer with src := s.fbb, srcc := srccBits s.cfg, dst := s.cfg.busDatAddr, dstc := 3#32, con := w }
    rw := s.rw ++ [.xferSrc s.fbb, .xferSrcc (srccBits s.cfg), .xferDst s.cfg.busDatAddr, .xferDstc 3#32, .xferCon w]
    sub := 0#2, ost := .trigger } := by
  have actions := sessionSetupProgramsTheChannel
  simp only [Obligations.SessionSetupProgramsTheChannel, forall_and] at actions
  obtain ⟨source, sourceControl, destination, -, destinationControl, control⟩ := actions
  refine .thread h ho (by decide) rfl (source _ xch ch w ho hx hs hm) ?_
  refine .thread h ho (by decide) rfl (sourceControl _ xch ch w ho hx hs rfl) ?_
  refine .thread h ho (by decide) rfl (destination _ xch ch w ho hx rfl hb rfl) ?_
  refine .thread h ho (by decide) rfl (destinationControl _ xch ch w ho hx rfl rfl) ?_
  refine .thread h ho (by decide) rfl (control _ xch ch w ho hx rfl hw) ?_
  exact .of_eq (by simp [hm])

/-- The control word of the orchestrator asks for the hardware trigger and holds `COUNT` (30_encoding.md rule R72). -/
theorem ctlWord_some {c : Config} {w : Word} (h : ctlWord c = some w) : ctlHardware w = true ∧ ctlCount w = BitVec.ofNat 20 c.count := by
  by_cases hr : 1 ≤ c.count ∧ c.count < 2 ^ 20
  · rw [ctlWord_of_range hr.1 hr.2] at h
    cases h
    exact ⟨ctlHardware_controlWord .., ctlCount_controlWord ..⟩
  · rw [ctlWord_out_of_range hr] at h
    cases h

/-- Step 8: the channel is armed with its working registers loaded, and the thread hands off (rule R168). -/
theorem runsTo_trigger {s : State} {ch xch : Nat} {w : Word} (h : unhindered s) (ho : s.ost = .trigger) (hb : s.bh = some ch)
    (hx : s.xh = some xch) (ha : s.xfer.trigOn = false) (hw : ctlWord s.cfg = some w) (hcon : s.xfer.con = w) : RunsTo 1 s { s with
    xfer := { s.xfer with
      trigOn := true, trigSwreq := false, csrc := s.xfer.src, cdst := s.xfer.dst, ccnt := BitVec.ofNat 20 s.cfg.count }
    rw := s.rw ++ [.xferTrig 2#32], sub := 0#2, ost := .handoff } := by
  obtain ⟨hhw, hcount⟩ := ctlWord_some hw
  have hbit : s.xfer.con.getLsbD 23 = true := hcon ▸ hhw
  have hccnt : s.xfer.con.extractLsb' 0 20 = BitVec.ofNat 20 s.cfg.count := hcon ▸ hcount
  obtain ⟨armed, -⟩ := triggerArmsAndHandsOff s xch ch
  refine .thread h ho (by decide) rfl (armed ho hx hb ha) (.of_eq ?_)
  simp [ctlHardware, hbit, hccnt]

/-! ### The whole bring-up -/

/-- What a legal configuration gives: both handles, a prescaler value and a control word (00_scope.md rule R7). -/
theorem configLegal_values {c : Config} (h : configLegal c = true) : ∃ ch xch p w, selectBus c c.busCh = some ch ∧
    selectXfer c.xferCh = some xch ∧ prescaler c.pclk c.targetHz = some p ∧ ctlWord c = some w := by
  simp only [configLegal, Bool.and_eq_true, Option.isSome_iff_exists] at h
  obtain ⟨⟨⟨⟨⟨⟨ch, hch⟩, xch, hxch⟩, p, hp⟩, w, hw⟩, -⟩, -⟩ := h
  exact ⟨ch, xch, p, w, hch, hxch, hp, hw⟩

/-- Settles O59: the runs of INIT and of the eight steps one after the other. -/
theorem bringUpReachesHandoff : Obligations.BringUpReachesHandoff := by
  intro s fb es hinv ho _ hlegal hresp hdelays he
  obtain ⟨ch, xch, p, w, hch, hxch, hp, hw⟩ := configLegal_values hlegal
  obtain ⟨hm, -, hb, -⟩ := atRest_of_plainStep hinv (.inl ho)
  obtain ⟨hon, -⟩ := hinv.notArmed (by simp [ho])
  have hfree : ∀ t : State, t.agenda = [] → t.bph = s.bph → t.cfg = s.cfg → unhindered t := fun t h1 h2 h3 =>
    ⟨h1, h2.trans hb, h3 ▸ hdelays⟩
  have hinit := runsTo_init ho fb
  have hpins := hinit.trans (runsTo_pinConfig (hfree _ rfl rfl rfl) rfl rfl)
  have hbus := hpins.trans (runsTo_busBringup (hfree _ rfl rfl rfl) rfl rfl hch hm hp)
  have hpulse := hbus.trans (runsTo_resetPulse (hfree _ rfl rfl rfl) rfl rfl)
  obtain ⟨r, b, dc, u, d, hplayback, hu, hcon, hpre⟩ := hpulse.playback (hfree _ rfl rfl rfl) rfl hch hresp rfl rfl rfl he
  have hdata := hplayback.trans (runsTo_dataMode (hfree _ rfl rfl rfl) rfl)
  have hsession := hdata.trans (runsTo_sessionSetup (hfree _ rfl rfl rfl) rfl rfl hch hxch hm hw)
  have hrun := hsession.trans (runsTo_trigger (hfree _ rfl rfl rfl) rfl hch hxch hon hw rfl)
  refine ⟨_, p, w, _, hp, hw, hrun, rfl, hb, rfl, rfl, rfl, rfl, hcon, hpre, hu, rfl, ?events, ?writes⟩
  case events => simp
  case writes => simp

end Sys2Proof.Machine
end
